-- ==== Sys2Proof/Word.lean ====
section
/-! DEFINITION. The words of the block: widths of the registers and of the command word (R7, R53). -/

namespace Sys2Proof

/-- A command word, a response word, an INVOKE word: 32 bits (R53, R70, R77, R78). -/
abbrev Word := BitVec 32

/-- A byte of the little-endian serialisation of a word (R51). -/
abbrev Byte := BitVec 8

/-- A callback reference: 16 opaque bits, `HANDLER_W` (R7, R27). -/
abbrev Handler := BitVec 16

/-- A callback slot's content: `NONE` or `SOME(h)` (R11, R27). -/
abbrev Callback := Option Handler

/-- The tick counter's bits: `TICK_W` = 10 (R7, R24). -/
abbrev TickCount := BitVec 10

/-- An overflow counter's bits: `OVF_W` = 32 (R7, R26). -/
abbrev Count := BitVec 32

/-- A task slot, 0..7 in ascending frequency (R21). -/
abbrev Slot := Fin 8

/-- One value for each task slot: the arrays `due[0..7]`, `ovf[0..7]`, `cb[0..7]`, `cbsnap[0..7]` (R20). -/
abbrev PerSlot (α : Type) := Vector α 8

/-- A subset of the slots, as `flagq` and `ovfq` are (R35): a slot is in it where its entry is true. -/
abbrev SlotSet := PerSlot Bool

end Sys2Proof
end

