-- ==== Sys2Proof/Config.lean ====
section
/-! DEFINITION. The parameters of the block that the spec leaves OPEN (R7), which State carries so that a statement about
every state is a statement about every setting, and the free values. -/

namespace Sys2Proof

/-- `OVF_POLICY` (R7, R95): what an overflow counter at its maximum does. -/
inductive OvfPolicy where
  | wrap
  | saturate
  deriving DecidableEq, Repr, Inhabited

/-- `TICK_ORDER` (R7, R97): the order of the TICK_FLAG steps of one TICK. -/
inductive TickOrder where
  | any
  | ascending
  deriving DecidableEq, Repr

/-- `REG_VISIBILITY` (R7, R112, R116): which callback slot a SCAN reads. -/
inductive RegVisibility where
  | either
  | live
  | snapshot
  deriving DecidableEq, Repr

/-- R162: "The callback context and the main loop are one execution context in the source's deployment ... A model may
treat them as one agent or as two." `shared`: the agent whose DISPATCH is in progress runs the callback itself, so its
own next commands are the callback's while an INVOKE is outstanding. `separate`: that agent waits until SCAN_END, and the
agent `callback` presents commands while an INVOKE is outstanding. -/
inductive CallbackContext where
  | shared
  | separate
  deriving DecidableEq, Repr

/-- The parameters of R7 that are arguments of the model. No step writes them (log entry 3). `tpsUnits` gives
`TPS` = 200 * (tpsUnits + 1): R8 makes `TPS` a positive multiple of 200 below `2^TICK_W`, so these five are all (log entry 4). -/
structure Params where
  ovfPolicy       : OvfPolicy
  tickAtomic      : Bool
  tickOrder       : TickOrder
  regVisibility   : RegVisibility
  tpsUnits        : Fin 5
  callbackContext : CallbackContext
  deriving DecidableEq, Repr

/-- The target's `OVF_POLICY` (R7: OPEN, with no default). DESIGN CHOICE, safe: it has no body, so nothing can be proved of
its value (log entry 3). -/
opaque Config.ovfPolicy : OvfPolicy

/-- A free value: which enabled move is taken at the n-th step where `plan` names none (R155: "any one of them may be
next"). DESIGN CHOICE, safe: it has no body (log entry 1). -/
opaque Config.freeChoice : Nat → Nat

/-- The setting at reset: the values and defaults of R7; `callbackContext` is the source's deployment (R162, log entry 5). -/
def Config.params : Params where
  ovfPolicy       := Config.ovfPolicy
  tickAtomic      := false
  tickOrder       := .any
  regVisibility   := .either
  tpsUnits        := 4
  callbackContext := .shared

end Sys2Proof
end

