-- ==== Sys2Proof/Syntax.lean ====
section
/-! DEFINITION. The seven commands of the block (R73, spec/opcode_table.json). -/

namespace Sys2Proof

/-- The commands. A slot operand is the unsigned identifier of R72: 0..7 name slots, 8 is `COUNT`, 9..15 are outside the
enumeration; what cannot be encoded (R79) is ill-formed. A callback reference is 16 opaque bits. -/
inductive Instr where
  | tick
  | dispatch
  | reg (slot : Nat) (h : Handler)
  | unreg (slot : Nat)
  | rdovf (slot : Nat)
  | rddue (slot : Nat)
  | cbret
  deriving DecidableEq, Repr

end Sys2Proof
end

