-- ==== Sys2Proof/WellFormed.lean ====
section
/-! DEFINITION. Which commands can be encoded. -/

namespace Sys2Proof

/-- R79: "An assembler rejects a `slot` above 15 ..., because neither can be encoded. It accepts `slot` values 8 to 15".
(A reference above 0xFFFF is no `Handler`.) -/
def Instr.wellFormed : Instr → Bool
  | .tick => true
  | .dispatch => true
  | .reg slot _ => decide (slot ≤ 15)
  | .unreg slot => decide (slot ≤ 15)
  | .rdovf slot => decide (slot ≤ 15)
  | .rddue slot => decide (slot ≤ 15)
  | .cbret => true

end Sys2Proof
end

