-- ==== Sys2Proof/Decode.lean ====
section
/-! DEFINITION. The decoder (R70-R76), and after it the encoder (R71, R79), the INVOKE word (R78), the rows of the opcode
map (R73) and the serialisation of a word as bytes (R51). -/

namespace Sys2Proof

/-- Why a word spells no command: R74 and R75, in the order R76 checks them. -/
inductive DecodeError where
  | reservedOpcode
  | reservedBits
  deriving DecidableEq, Repr

/-- Field `OP` (R71). -/
def opField (w : Word) : BitVec 4 := w.extractLsb' 28 4

/-- Field `SLOT` (R71). -/
def slotField (w : Word) : BitVec 4 := w.extractLsb' 24 4

/-- Field `P` (R71). -/
def presentField (w : Word) : BitVec 1 := w.extractLsb' 23 1

/-- Field `RSV` (R71). -/
def rsvField (w : Word) : BitVec 7 := w.extractLsb' 16 7

/-- Field `H` (R71). -/
def handlerField (w : Word) : Handler := w.extractLsb' 0 16

/-- `i` where the must-be-zero bits `mbz` of its row are zero, else RESERVED_BITS (R75). -/
def requireZero (mbz : Bool) (i : Instr) : Except DecodeError Instr :=
  if mbz then .ok i else .error .reservedBits

/-- The decoder: one word is one command (R70). The opcode is checked first, then the must-be-zero bits of its row
(R73-R76); the slot operand is `zext(w[27:24])` (R72). -/
def decode (w : Word) : Except DecodeError Instr :=
  let slot := (slotField w).toNat
  match (opField w).toNat with
  | 1 => requireZero (w.extractLsb' 0 28 == 0) .tick
  | 2 => requireZero (w.extractLsb' 0 28 == 0) .dispatch
  | 3 =>
    if presentField w == 1 then requireZero (rsvField w == 0) (.reg slot (handlerField w))
    else requireZero (w.extractLsb' 0 23 == 0) (.unreg slot)
  | 4 => requireZero (w.extractLsb' 0 24 == 0) (.rdovf slot)
  | 5 => requireZero (w.extractLsb' 0 24 == 0) (.rddue slot)
  | 6 => requireZero (w.extractLsb' 0 28 == 0) .cbret
  | _ => .error .reservedOpcode

/-- A word from its fields, `RSV` = 0 (R71). -/
def wordOf (op slot : BitVec 4) (p : BitVec 1) (h : Handler) : Word :=
  op ++ slot ++ p ++ (0 : BitVec 7) ++ h

/-- The encoder: R73 and R79. -/
def encode : Instr → Word
  | .tick => wordOf 1 0 0 0
  | .dispatch => wordOf 2 0 0 0
  | .reg slot h => wordOf 3 (BitVec.ofNat 4 slot) 1 h
  | .unreg slot => wordOf 3 (BitVec.ofNat 4 slot) 0 0
  | .rdovf slot => wordOf 4 (BitVec.ofNat 4 slot) 0 0
  | .rddue slot => wordOf 5 (BitVec.ofNat 4 slot) 0 0
  | .cbret => wordOf 6 0 0 0

/-- The INVOKE word of slot `c` and reference `h` (R78): [31:28] = 0, [27:24] = c, [23:16] = 0, [15:0] = h. -/
def invokeWord (c : Slot) (h : Handler) : Word :=
  wordOf 0 (BitVec.ofNat 4 c.val) 0 h

/-- The column "match" of a command's row in the opcode map (R73). -/
def Instr.rowMatch : Instr → Word
  | .tick => 0x10000000
  | .dispatch => 0x20000000
  | .reg _ _ => 0x30800000
  | .unreg _ => 0x30000000
  | .rdovf _ => 0x40000000
  | .rddue _ => 0x50000000
  | .cbret => 0x60000000

/-- The column "mask" of a command's row in the opcode map (R73). -/
def Instr.rowMask : Instr → Word
  | .tick => 0xFFFFFFFF
  | .dispatch => 0xFFFFFFFF
  | .reg _ _ => 0xF0FF0000
  | .unreg _ => 0xF0FFFFFF
  | .rdovf _ => 0xF0FFFFFF
  | .rddue _ => 0xF0FFFFFF
  | .cbret => 0xFFFFFFFF

/-- A word as bytes, least significant byte first (R51). -/
def wordBytes (w : Word) : List Byte :=
  [w.extractLsb' 0 8, w.extractLsb' 8 8, w.extractLsb' 16 8, w.extractLsb' 24 8]

/-- The decoder on bytes: the first four are the command word (R51), the rest is handed back. Fewer than four bytes are no
command word: "The block accepts no partial words" (R52). -/
def decodeBytes : List Byte → Option (Except DecodeError Instr × List Byte)
  | b0 :: b1 :: b2 :: b3 :: rest => some (decode (b3 ++ b2 ++ b1 ++ b0), rest)
  | _ => none

/-- The command the decoder reads from the word that holds the low `nbits` bits of `w`, every bit above them zero (R70: a
command is one 32-bit word). -/
def decodeTableWord (nbits w : Nat) : Option Instr :=
  match decode (BitVec.ofNat 32 (w % 2 ^ nbits)) with
  | .ok i => some i
  | .error _ => none

end Sys2Proof
end

