-- ==== Sys2Proof/Machine/State.lean ====
section
/-! DEFINITION. The state of the block and of its interface to the host (`10_state.md`, R20; `60_exceptions.md`, R162). -/

namespace Sys2Proof.Machine

/-- The refusal reasons of R151. -/
inductive RefuseReason where
  /-- R74: `OP` = 0x0 or 0x7..0xF. -/
  | reservedOpcode
  /-- R75: a must-be-zero bit is 1. -/
  | reservedBits
  /-- R111: DISPATCH while a pass is in progress. -/
  | dispatchBusy
  /-- R114: CBRET with no invocation outstanding. -/
  | cbretUnexpected
  /-- R132, R133: RDOVF or RDDUE with `SLOT` >= 8. -/
  | slotRange
  deriving DecidableEq, Repr

/-- The host agents of R162. -/
inductive HostAgent where
  | tickSource
  | mainLoop
  | callback
  | monitor
  deriving DecidableEq, Repr

/-- What an agent's last command gave back (R77, R151, R164). -/
inductive Reply where
  /-- No command of the agent has ended yet, or its TICK or DISPATCH is in progress. -/
  | nothing
  /-- Completion, with no value (R77 "Every other command returns no value"). -/
  | done
  /-- The 32-bit response word of RDOVF or RDDUE (R77). -/
  | value (v : Word)
  /-- The command was refused (R151). -/
  | refused (why : RefuseReason)
  deriving DecidableEq, Repr

/-- The interface of one host agent: the command words it still has to present, the head first (R70, R162: one at a time,
the next only after the previous completes or is refused), and what its last command gave back. -/
structure Port where
  cmds  : List Word
  reply : Reply
  deriving DecidableEq, Repr

/-- The ports of the four host agents. -/
structure Ports where
  tickSource : Port
  mainLoop   : Port
  callback   : Port
  monitor    : Port
  deriving DecidableEq, Repr

/-- `TU` (R35): the slots whose TICK_FLAG step is pending and those whose TICK_OVF step is pending. -/
inductive TickUnit where
  | idle
  | run (flagq ovfq : SlotSet)
  deriving DecidableEq, Repr

/-- `DS` (R36): no pass; slot `c` is next, `c` the cursor 0..8 of R29; or INVOKE(c, h) is outstanding. -/
inductive Sequencer where
  | idle
  | scan (c : Fin 9)
  | await (c : Slot) (h : Handler)
  deriving DecidableEq, Repr

/-- Which callback slot a SCAN reads (R112): `cb[c]` or `cbsnap[c]`. -/
inductive View where
  | live
  | snapshot
  deriving DecidableEq, Repr

/-- The steps of the agents (R155, R162). A host agent's step presents the command at the head of its port; the steps
TICK_BEGIN, TICK_ALL and DISPATCH_ACCEPT are the ones that accept its TICK or DISPATCH. -/
inductive Move where
  | host (a : HostAgent)
  /-- TICK_FLAG(i) (R93). -/
  | tickFlag (i : Slot)
  /-- TICK_OVF(i) (R94). -/
  | tickOvf (i : Slot)
  /-- TICK_END (R96). -/
  | tickEnd
  /-- SCAN(c) for the cursor's slot (R112); under `EITHER` the view is the draw. -/
  | scan (v : View)
  /-- SCAN_END (R113). -/
  | scanEnd
  deriving DecidableEq, Repr

/-- The state. `tick`, `due`, `ovf`, `cb`, `tu`, `ds`, `cbsnap` and `refused` are the tuple of R20. `params` are the open
parameters of R7, which no step writes. `ports`, `issuer` (the agent whose command the step performs), `tickBy` and
`passBy` (the agents whose TICK and whose DISPATCH are in progress) are the interface to the host (R12, R162). `plan` and
`draws` are the model's own: they say which enabled step is next (R155, log entry 1). The INVOKE output holds no state of
its own: it is asserted exactly in `D_AWAIT` (R39 d). -/
structure State where
  params  : Params
  tick    : TickCount
  due     : PerSlot Bool
  ovf     : PerSlot Count
  cb      : PerSlot Callback
  tu      : TickUnit
  ds      : Sequencer
  cbsnap  : PerSlot Callback
  refused : Bool
  ports   : Ports
  issuer  : HostAgent
  tickBy  : HostAgent
  passBy  : HostAgent
  plan    : List Move
  draws   : Nat
  deriving DecidableEq, Repr

/-- Why the step function stops. The block itself raises nothing (R150); these say that no agent has a step. -/
inductive Fault where
  /-- Raised by `step` when no agent has a step and no invocation is outstanding: the block is quiescent and the host has
  no command to present. "A *run* of a host command sequence ends when the host has no command left and the block is
  quiescent" (R166). Safe. -/
  | runOver
  /-- Raised by `step` when an invocation is outstanding and no host agent has a command to present: "A pass whose CBRET
  never comes is a hang caused by the host, and the model must not hide it" (R166). Safe. -/
  | callbackHang
  deriving DecidableEq, Repr

/-- Why an instruction has no meaning in the model. A command the block refuses is NOT this: it is a next state with
the mark `refused` set (R13, R151). -/
inductive Refusal where
  /-- Raised by an arm of `exec` whose instruction has no meaning yet; no arm is left that raises it. Safe. -/
  | notModelled (mnemonic : String)
  deriving DecidableEq, Repr

/-- The state after reset (R171). A fresh port holds no command and no reply. -/
def State.reset : State where
  params  := Config.params
  tick    := 0
  due     := Vector.replicate 8 false
  ovf     := Vector.replicate 8 0
  cb      := Vector.replicate 8 none
  tu      := .idle
  ds      := .idle
  cbsnap  := Vector.replicate 8 none
  refused := false
  ports   := ⟨⟨[], .nothing⟩, ⟨[], .nothing⟩, ⟨[], .nothing⟩, ⟨[], .nothing⟩⟩
  issuer  := .mainLoop
  tickBy  := .tickSource
  passBy  := .mainLoop
  plan    := []
  draws   := 0

end Sys2Proof.Machine
end

