-- ==== Sys2Proof/Machine/Ops.lean ====
section
/-! DEFINITION. The named operations on the state: the writes of one field, the per-slot arrays, the ports of the host
agents, and the refusal of a command, which is the block's only "exception" (R150, R151). -/

namespace Sys2Proof.Machine

/-! ### The writes of one field -/

def State.setTick (s : State) (v : TickCount) : State := { s with tick := v }
def State.setDue (s : State) (v : PerSlot Bool) : State := { s with due := v }
def State.setOvf (s : State) (v : PerSlot Count) : State := { s with ovf := v }
def State.setCb (s : State) (v : PerSlot Callback) : State := { s with cb := v }
def State.setTu (s : State) (v : TickUnit) : State := { s with tu := v }
def State.setDs (s : State) (v : Sequencer) : State := { s with ds := v }
def State.setCbsnap (s : State) (v : PerSlot Callback) : State := { s with cbsnap := v }
def State.setRefused (s : State) (v : Bool) : State := { s with refused := v }
def State.setPorts (s : State) (v : Ports) : State := { s with ports := v }
def State.setIssuer (s : State) (v : HostAgent) : State := { s with issuer := v }
def State.setTickBy (s : State) (v : HostAgent) : State := { s with tickBy := v }
def State.setPassBy (s : State) (v : HostAgent) : State := { s with passBy := v }
def State.setPlan (s : State) (v : List Move) : State := { s with plan := v }
def State.setDraws (s : State) (v : Nat) : State := { s with draws := v }

/-! ### The per-slot arrays -/

/-- The task slots in ascending order (R21). -/
def slots : List Slot := [0, 1, 2, 3, 4, 5, 6, 7]

/-- The entry of slot `i`. -/
def slotGet {α : Type} (v : PerSlot α) (i : Slot) : α := v[i.val]

/-- The array with the entry of slot `i` written (R54: one field of one slot). -/
def slotSet {α : Type} (v : PerSlot α) (i : Slot) (x : α) : PerSlot α := v.set i.val x

/-- The array whose entry of slot `i` is `f i`. -/
def slotTab {α : Type} (f : Slot → α) : PerSlot α :=
  #v[f 0, f 1, f 2, f 3, f 4, f 5, f 6, f 7]

/-- The empty set of slots. -/
def noSlots : SlotSet := slotTab fun _ => false

/-- Whether a set of slots is empty. -/
def isEmptySet (q : SlotSet) : Bool := slots.all fun i => !slotGet q i

/-- The least slot of a set, where it has one (R93: `min(flagq)`). -/
def leastSlot (q : SlotSet) : Option Slot := slots.find? fun i => slotGet q i

/-! ### The ports of the host agents -/

def getPort (p : Ports) : HostAgent → Port
  | .tickSource => p.tickSource
  | .mainLoop => p.mainLoop
  | .callback => p.callback
  | .monitor => p.monitor

def setPort (p : Ports) (a : HostAgent) (q : Port) : Ports :=
  match a with
  | .tickSource => { p with tickSource := q }
  | .mainLoop => { p with mainLoop := q }
  | .callback => { p with callback := q }
  | .monitor => { p with monitor := q }

/-- The command of the agent whose step this is is taken from its port, and `r` is what it is given (R12 `respond`, R77,
R164). With `r` = `nothing` the command is accepted and goes on (TICK, DISPATCH). -/
def retire (r : Reply) (s : State) : State :=
  s.setPorts (setPort s.ports s.issuer ⟨(getPort s.ports s.issuer).cmds.tail, r⟩)

/-- `r` is given to agent `a`, whose command was accepted earlier and ends now. -/
def deliver (r : Reply) (a : HostAgent) (s : State) : State :=
  s.setPorts (setPort s.ports a ⟨(getPort s.ports a).cmds, r⟩)

/-- `refuse <Reason>` (R13, R151): no hardware state changes, the mark is set and stays, the command is gone. -/
def refuse (why : RefuseReason) (s : State) : State :=
  (retire (.refused why) s).setRefused true

/-- The reason a word that spells no command is refused for (R74, R75). -/
def refuseReasonOf : DecodeError → RefuseReason
  | .reservedOpcode => .reservedOpcode
  | .reservedBits => .reservedBits

/-- The codes of the reasons (R151). -/
def refuseCode : RefuseReason → Nat
  | .reservedOpcode => 1
  | .reservedBits => 2
  | .dispatchBusy => 3
  | .cbretUnexpected => 4
  | .slotRange => 5

/-! ### What the units are doing -/

/-- `TU ≠ T_IDLE`. -/
def tickRunning (s : State) : Bool :=
  match s.tu with
  | .idle => false
  | .run _ _ => true

/-- `DS ≠ D_IDLE`: a pass is in progress (R36). -/
def passRunning (s : State) : Bool :=
  match s.ds with
  | .idle => false
  | .scan _ => true
  | .await _ _ => true

/-- `DS = D_AWAIT(c, h)`: an INVOKE is outstanding (R39 d). -/
def invokeOutstanding (s : State) : Bool :=
  match s.ds with
  | .idle => false
  | .scan _ => false
  | .await _ _ => true

/-- The callback-invocation output (R78, R110): the INVOKE word while one is outstanding, else nothing. -/
def invokeOut (s : State) : Option Word :=
  match s.ds with
  | .idle => none
  | .scan _ => none
  | .await c h => some (invokeWord c h)

end Sys2Proof.Machine
end

