-- ==== Sys2Proof/Machine/Operands.lean ====
section
/-! DEFINITION. The operand forms: the slot identifier (R72, R55) and the sequencer's cursor as a slot (R29). -/

namespace Sys2Proof.Machine

/-- The slot an identifier names: 0..7; the others, `COUNT` = 8 among them, name none (R72, R55). -/
def slotOf (id : Nat) : Option Slot :=
  if h : id < 8 then some ⟨id, h⟩ else none

/-- The slot the cursor stands at: none once it has reached 8 (R29, R113). -/
def cursorSlot (c : Fin 9) : Option Slot := slotOf c.val

end Sys2Proof.Machine
end

