-- ==== Sys2Proof/Machine/Flags.lean ====
section
/-! DEFINITION. The due flags and the overflow counters: the swap of a flag (R12, R63), the increment of a counter (R95),
and their values as response words (R77). -/

namespace Sys2Proof.Machine

/-- `swap(due[i], b)`: the value the flag held before, and the state with `b` written (R12, R54). -/
def swapDue (i : Slot) (b : Bool) (s : State) : Bool × State :=
  (slotGet s.due i, s.setDue (slotSet s.due i b))

/-- `MAX` = 2^OVF_W - 1 (R95). -/
def ovfMax : Count := 0xFFFFFFFF

/-- `inc` (R95). -/
def inc (policy : OvfPolicy) (v : Count) : Count :=
  if v == ovfMax then
    match policy with
    | .wrap => 0
    | .saturate => ovfMax
  else v + 1

/-- `ovf[i] <- inc(ovf[i])` (R94). -/
def countMiss (i : Slot) (s : State) : State :=
  s.setOvf (slotSet s.ovf i (inc s.params.ovfPolicy (slotGet s.ovf i)))

/-- `zext_32(due[s])` (R77). -/
def dueWord (b : Bool) : Word := if b then 1 else 0

end Sys2Proof.Machine
end

