-- ==== Sys2Proof/Machine/Registration.lean ====
section
/-! DEFINITION. Registration and introspection (`42_register.md`): REG, UNREG, RDOVF, RDDUE, each one atomic step. -/

namespace Sys2Proof.Machine

/-- `cb[s] <- x` where the identifier names a slot, else no effect (R130, R131); the command completes. -/
def writeCallback (id : Nat) (x : Callback) (s : State) : State :=
  match slotOf id with
  | some i => (retire .done s).setCb (slotSet s.cb i x)
  | none => retire .done s

/-- The response `f i` where the identifier names a slot `i`, else refused SLOT_RANGE (R132, R133). -/
def respondSlot (id : Nat) (f : Slot → Word) (s : State) : State :=
  match slotOf id with
  | some i => retire (.value (f i)) s
  | none => refuse .slotRange s

/-- REG (R130). -/
def execReg (id : Nat) (h : Handler) (s : State) : Host.Outcome State Fault Refusal :=
  .next (writeCallback id (some h) s)

/-- UNREG (R131). -/
def execUnreg (id : Nat) (s : State) : Host.Outcome State Fault Refusal :=
  .next (writeCallback id none s)

/-- RDOVF (R132): `respond(zext_32(ovf[s]))`. -/
def execRdovf (id : Nat) (s : State) : Host.Outcome State Fault Refusal :=
  .next (respondSlot id (fun i => slotGet s.ovf i) s)

/-- RDDUE (R133): `respond(zext_32(due[s]))`. -/
def execRddue (id : Nat) (s : State) : Host.Outcome State Fault Refusal :=
  .next (respondSlot id (fun i => dueWord (slotGet s.due i)) s)

end Sys2Proof.Machine
end

