-- ==== Sys2Proof/Machine/Sequencer.lean ====
section
/-! DEFINITION. The dispatch family (`41_dispatch.md`): DISPATCH, the steps of a pass, and CBRET. -/

namespace Sys2Proof.Machine

/-- The callback a SCAN of slot `c` reads: `cb[c]` or `cbsnap[c]` (R112). -/
def callbackFor (v : View) (c : Slot) (s : State) : Callback :=
  match v with
  | .live => slotGet s.cb c
  | .snapshot => slotGet s.cbsnap c

/-- Step DISPATCH_ACCEPT (R111) of the agent whose step this is, where no pass is in progress. -/
def dispatchAccept (s : State) : State :=
  (((retire .nothing s).setCbsnap s.cb).setPassBy s.issuer).setDs (.scan 0)

/-- Step SCAN(c) (R112) for the slot the cursor stands at, with the callback read through view `v`; nothing where no slot
is to be scanned. The flag is cleared first; INVOKE(c, h) is outstanding from the step that enters `D_AWAIT(c, h)`. -/
def scan (v : View) (s : State) : State :=
  match s.ds with
  | .idle => s
  | .await _ _ => s
  | .scan cur =>
    match cursorSlot cur with
    | none => s
    | some c =>
      let (old, s1) := swapDue c false s
      if old then
        match callbackFor v c s with
        | some h => s1.setDs (.await c h)
        | none => s1.setDs (.scan c.succ)
      else s1.setDs (.scan c.succ)

/-- Step SCAN_END (R113): the DISPATCH command completes here. -/
def scanEnd (s : State) : State := deliver .done s.passBy (s.setDs .idle)

/-- DISPATCH (R111): refused while a pass is in progress. -/
def execDispatch (s : State) : Host.Outcome State Fault Refusal :=
  .next (if passRunning s then refuse .dispatchBusy s else dispatchAccept s)

/-- CBRET (R114): the outstanding INVOKE is withdrawn and the cursor moves on; refused where none is outstanding. -/
def execCbret (s : State) : Host.Outcome State Fault Refusal :=
  match s.ds with
  | .await c _ => .next ((retire .done s).setDs (.scan c.succ))
  | .idle => .next (refuse .cbretUnexpected s)
  | .scan _ => .next (refuse .cbretUnexpected s)

end Sys2Proof.Machine
end

