-- ==== Sys2Proof/Machine/TickUnit.lean ====
section
/-! DEFINITION. The tick family (`40_tick.md`): the interval-comparator array, the steps of the tick unit, and TICK. -/

namespace Sys2Proof.Machine

/-- `FREQ[i]` in Hz (R7, R22). -/
def freq (i : Slot) : Nat := slotGet #v[1, 2, 5, 10, 20, 50, 100, 200] i

/-- `TPS`, a positive multiple of 200 (R7, R8): 1000 at reset. -/
def tps (p : Params) : Nat := 200 * (p.tpsUnits.val + 1)

/-- `INTERVAL[i]` = `TPS` / `FREQ[i]` (R7, R22). -/
def interval (p : Params) (i : Slot) : Nat := tps p / freq i

/-- Lane `i` of the comparator array: `t mod INTERVAL[i] == 0` (R92). -/
def lane (p : Params) (t : TickCount) (i : Slot) : Bool := t.toNat % interval p i == 0

/-- The slots the array reports (R91, R92). -/
def hits (p : Params) (t : TickCount) : SlotSet := slotTab (lane p t)

/-- The rollover (R96): `if tick == TPS then tick <- 0`. -/
def rollover (p : Params) (t : TickCount) : TickCount := if t.toNat == tps p then 0 else t

/-- Step TICK_BEGIN (R91), which accepts the TICK of the agent whose step this is. -/
def tickBegin (s : State) : State :=
  (((retire .nothing s).setTick (s.tick + 1)).setTickBy s.issuer).setTu
    (.run (hits s.params (s.tick + 1)) noSlots)

/-- Step TICK_FLAG(i) (R93); nothing where no TICK is in progress. -/
def tickFlag (i : Slot) (s : State) : State :=
  match s.tu with
  | .idle => s
  | .run flagq ovfq =>
    let (old, s1) := swapDue i true s
    s1.setTu (.run (slotSet flagq i false) (if old then slotSet ovfq i true else ovfq))

/-- Step TICK_OVF(i) (R94); nothing where no TICK is in progress. -/
def tickOvf (i : Slot) (s : State) : State :=
  match s.tu with
  | .idle => s
  | .run flagq ovfq => (countMiss i s).setTu (.run flagq (slotSet ovfq i false))

/-- Step TICK_END (R96): the rollover; the TICK command completes here. -/
def tickEnd (s : State) : State :=
  deliver .done s.tickBy ((s.setTick (rollover s.params s.tick)).setTu .idle)

/-- `due` after all lanes of a TICK that reaches count `t` (R98). -/
def dueAfter (s : State) (t : TickCount) : PerSlot Bool :=
  slotTab fun i => lane s.params t i || slotGet s.due i

/-- `ovf` after all lanes of a TICK that reaches count `t` (R98). -/
def ovfAfter (s : State) (t : TickCount) : PerSlot Count :=
  slotTab fun i =>
    if lane s.params t i && slotGet s.due i then inc s.params.ovfPolicy (slotGet s.ovf i)
    else slotGet s.ovf i

/-- Step TICK_ALL (R98): the whole TICK as one atomic step; the command completes in it. -/
def tickAll (s : State) : State :=
  let t := s.tick + 1
  (((retire .done s).setDue (dueAfter s t)).setOvf (ovfAfter s t)).setTick (rollover s.params t)

/-- TICK (R90): held while a TICK is in progress, the state as it was (R100); else TICK_ALL or TICK_BEGIN, as
`TICK_ATOMIC` says. -/
def execTick (s : State) : Host.Outcome State Fault Refusal :=
  match s.tu with
  | .run _ _ => .next s
  | .idle => .next (if s.params.tickAtomic then tickAll s else tickBegin s)

end Sys2Proof.Machine
end

