-- ==== Sys2Proof/Machine/Dispatch.lean ====
section
/-! DEFINITION. The meaning of each command, for the host agent `issuer` that presents it. -/

namespace Sys2Proof.Machine

def exec (i : Instr) (s : State) : Host.Outcome State Fault Refusal :=
  match i with
  | .tick => Sys2Proof.Machine.execTick s
  | .dispatch => Sys2Proof.Machine.execDispatch s
  | .reg slot h => Sys2Proof.Machine.execReg slot h s
  | .unreg slot => Sys2Proof.Machine.execUnreg slot s
  | .rdovf slot => Sys2Proof.Machine.execRdovf slot s
  | .rddue slot => Sys2Proof.Machine.execRddue slot s
  | .cbret => Sys2Proof.Machine.execCbret s

end Sys2Proof.Machine
end

