-- ==== Sys2Proof/Machine/Schedule.lean ====
section
/-! DEFINITION. Which steps are enabled, and which of them is next: R155 "When several steps are enabled at once, any one
of them may be next." -/

namespace Sys2Proof.Machine

/-! ### The host agents -/

/-- Whether agent `a` is free to present a command: its TICK and its DISPATCH have completed (R162). While an INVOKE is
outstanding the callback runs, in the context of the pass's agent or in that of `callback` (`CallbackContext`). -/
def mayPresent (s : State) (a : HostAgent) : Bool :=
  !(tickRunning s && s.tickBy == a) &&
  match s.params.callbackContext with
  | .shared => a != .callback && (!(passRunning s && s.passBy == a) || invokeOutstanding s)
  | .separate => !(passRunning s && s.passBy == a) && (a != .callback || invokeOutstanding s)

/-- Whether the word is a TICK that is held (R100); a word that spells no command is never held (R76). -/
def isHeld (s : State) (w : Word) : Bool :=
  match decode w with
  | .ok .tick => tickRunning s
  | .ok .dispatch => false
  | .ok (.reg _ _) => false
  | .ok (.unreg _) => false
  | .ok (.rdovf _) => false
  | .ok (.rddue _) => false
  | .ok .cbret => false
  | .error _ => false

/-- The word agent `a` presents, where it has a step: it is free, has a command left, and the command is not held. -/
def presented (s : State) (a : HostAgent) : Option Word :=
  match (getPort s.ports a).cmds with
  | [] => none
  | w :: _ => if mayPresent s a && !isHeld s w then some w else none

/-- All host agents (R162). -/
def hostAgents : List HostAgent := [.tickSource, .mainLoop, .callback, .monitor]

/-- The enabled steps of the host agents. -/
def hostMoves (s : State) : List Move :=
  (hostAgents.filter fun a => (presented s a).isSome).map .host

/-! ### The tick unit -/

/-- Whether `TICK_ORDER` lets TICK_FLAG(i) be next (R93). -/
def orderAllows (order : TickOrder) (flagq : SlotSet) (i : Slot) : Bool :=
  match order with
  | .any => true
  | .ascending => leastSlot flagq == some i

/-- The enabled TICK_FLAG steps (R93). -/
def flagMoves (order : TickOrder) (flagq : SlotSet) : List Move :=
  (slots.filter fun i => slotGet flagq i && orderAllows order flagq i).map .tickFlag

/-- The enabled TICK_OVF steps (R94). -/
def ovfMoves (ovfq : SlotSet) : List Move :=
  (slots.filter fun i => slotGet ovfq i).map .tickOvf

/-- TICK_END, where it is enabled (R96). -/
def endMoves (flagq ovfq : SlotSet) : List Move :=
  if isEmptySet flagq && isEmptySet ovfq then [.tickEnd] else []

/-- The enabled steps of the tick unit, after the acceptance of a TICK. -/
def tickMoves (s : State) : List Move :=
  match s.tu with
  | .idle => []
  | .run flagq ovfq =>
    flagMoves s.params.tickOrder flagq ++ ovfMoves ovfq ++ endMoves flagq ovfq

/-! ### The dispatch sequencer -/

/-- The views `REG_VISIBILITY` admits for SCAN(c) (R112). Under `EITHER` the draw has two values only where the flag is set
and `cb[c]` and `cbsnap[c]` differ. -/
def views (s : State) (c : Slot) : List View :=
  match s.params.regVisibility with
  | .live => [.live]
  | .snapshot => [.snapshot]
  | .either =>
    if slotGet s.due c && slotGet s.cb c != slotGet s.cbsnap c then [.live, .snapshot]
    else [.live]

/-- The enabled steps of the sequencer, after the acceptance of a DISPATCH; it waits in `D_AWAIT` (R119). -/
def seqMoves (s : State) : List Move :=
  match s.ds with
  | .idle => []
  | .await _ _ => []
  | .scan cur =>
    match cursorSlot cur with
    | some c => (views s c).map .scan
    | none => [.scanEnd]

/-! ### The choice -/

/-- Every enabled step of every agent (R155, R162). -/
def enabled (s : State) : List Move := hostMoves s ++ tickMoves s ++ seqMoves s

/-- The enabled step taken where `plan` names none: the only one, or one that the free value `Config.freeChoice` picks. -/
def freeMove (s : State) : Option Move :=
  match enabled s with
  | [] => none
  | [m] => some m
  | m :: m' :: ms => (m :: m' :: ms)[Config.freeChoice s.draws % (ms.length + 2)]?

/-- The step that is next: the first of `plan` where it is enabled, else a free choice among the enabled steps. -/
def nextMove (s : State) : Option Move :=
  match s.plan with
  | [] => freeMove s
  | m :: _ => if (enabled s).contains m then some m else freeMove s

/-- One entry of `plan` and one draw are used up by every step. -/
def usePlan (s : State) : State := (s.setPlan s.plan.tail).setDraws (s.draws + 1)

/-- An agent that is free to present a command: the tick in progress and the pass in progress keep at most two of the
three waiting. -/
def freeAgent (s : State) : HostAgent :=
  if mayPresent s .mainLoop then .mainLoop
  else if mayPresent s .monitor then .monitor
  else .tickSource

end Sys2Proof.Machine
end

