-- ==== Sys2Proof/Machine/Agents.lean ====
section
/-! DEFINITION. The steps of the agents (R162): a host agent presents its command, which the block decodes and performs or
refuses (R76); the tick unit and the sequencer take the steps of their own. -/

namespace Sys2Proof.Machine

/-- The block gets the command word `w` from agent `a`: a word that spells no command is refused first (R74-R76). -/
def runWord (a : HostAgent) (w : Word) (s : State) : Host.Outcome State Fault Refusal :=
  match decode w with
  | .ok i => exec i (s.setIssuer a)
  | .error e => .next (refuse (refuseReasonOf e) (s.setIssuer a))

/-- One step of an agent. -/
def runMove (m : Move) (s : State) : Host.Outcome State Fault Refusal :=
  match m with
  | .host a =>
    match (getPort s.ports a).cmds with
    | [] => .next s
    | w :: _ => runWord a w s
  | .tickFlag i => .next (tickFlag i s)
  | .tickOvf i => .next (tickOvf i s)
  | .tickEnd => .next (tickEnd s)
  | .scan v => .next (scan v s)
  | .scanEnd => .next (scanEnd s)

/-- Why no agent has a step: the host leaves an INVOKE unanswered, or the run is over (R166). -/
def stopReason (s : State) : Fault :=
  if invokeOutstanding s then .callbackHang else .runOver

/-- The state with `w` as the next command of agent `a`, and `a`'s step the next one. -/
def present (a : HostAgent) (w : Word) (s : State) : State :=
  (s.setPorts (setPort s.ports a ⟨w :: (getPort s.ports a).cmds, (getPort s.ports a).reply⟩)).setPlan
    (.host a :: s.plan)

end Sys2Proof.Machine
end

