-- ==== Sys2Proof/Machine/Step.lean ====
section
/-! DEFINITION. The step function: one atomic step of one agent (R155). -/

namespace Sys2Proof.Machine

/-- One transition: an enabled step of one agent, or a stop where no agent has one. -/
def step (s : State) : Host.Outcome State Fault Refusal :=
  match nextMove s with
  | some m => runMove m (usePlan s)
  | none => .fault (stopReason s)

/-- `s` with the command word `w` (its bits above `nbits` zero) presented by a host agent that is free to, whose step is the
next one. The block fetches nothing (R61): this stands for the host's presenting a command (log entry 2). -/
def State.withFetchWord (s : State) (nbits w : Nat) : State :=
  present (freeAgent s) (BitVec.ofNat 32 (w % 2 ^ nbits)) s

end Sys2Proof.Machine
end

