-- ==== Sys2Proof/Machine/Assembler.lean ====
section
/-! DEFINITION. The assembler syntax (R79) and the pseudo-instructions (R80), over lines of characters. What the spec does
not say of the notation (blanks, how a numeral is spelt) is log entry 13. -/

namespace Sys2Proof.Machine

/-- Why a line is rejected (R79). -/
inductive AsmError where
  /-- The line is none of the forms of R79 and R80. -/
  | badLine
  /-- A slot above 15: it cannot be encoded. -/
  | slotTooBig
  /-- A handler above 0xFFFF: it cannot be encoded. -/
  | handlerTooBig
  deriving DecidableEq, Repr

/-- A token: the characters of a word in capitals, or a comma. -/
abbrev Token := List Char

/-- The line up to the comment: "`;` starts a comment" (R79). -/
def uncomment : List Char → List Char
  | [] => []
  | c :: cs => if c == ';' then [] else c :: uncomment cs

/-- The tokens of a line, `cur` the word being read, backwards. "Mnemonics are case-insensitive. Operands are separated by
a comma." (R79) -/
def tokensFrom (cur : Token) : List Char → List Token
  | [] => if cur.isEmpty then [] else [cur.reverse]
  | c :: cs =>
    if c == ' ' || c == '\t' then
      (if cur.isEmpty then [] else [cur.reverse]) ++ tokensFrom [] cs
    else if c == ',' then
      (if cur.isEmpty then [] else [cur.reverse]) ++ [','] :: tokensFrom [] cs
    else tokensFrom (c.toUpper :: cur) cs

/-- The value of a digit, in base ten or sixteen. -/
def digitValue (c : Char) : Option Nat :=
  let n := c.toNat
  if 48 ≤ n && n ≤ 57 then some (n - 48)
  else if 65 ≤ n && n ≤ 70 then some (n - 55)
  else none

/-- The value of a string of digits in base `base`, `acc` the value so far. -/
def digitsFrom (base acc : Nat) : List Char → Option Nat
  | [] => some acc
  | c :: cs =>
    match digitValue c with
    | some d => if d < base then digitsFrom base (acc * base + d) cs else none
    | none => none

/-- A numeral: decimal, or hexadecimal written `0x...` (R10). -/
def numeral : Token → Option Nat
  | [] => none
  | '0' :: 'X' :: [] => none
  | '0' :: 'X' :: ds => digitsFrom 16 0 ds
  | ds => digitsFrom 10 0 ds

/-- The slot symbols of R79. -/
def slotSymbols : List (Token × Nat) :=
  [(['S', '1', 'H', 'Z'], 0), (['S', '2', 'H', 'Z'], 1), (['S', '5', 'H', 'Z'], 2),
   (['S', '1', '0', 'H', 'Z'], 3), (['S', '2', '0', 'H', 'Z'], 4), (['S', '5', '0', 'H', 'Z'], 5),
   (['S', '1', '0', '0', 'H', 'Z'], 6), (['S', '2', '0', '0', 'H', 'Z'], 7),
   (['C', 'O', 'U', 'N', 'T'], 8)]

/-- A slot operand: a symbol or a numeral 0..15 (R79). -/
def slotOperand (t : Token) : Except AsmError Nat :=
  match slotSymbols.lookup t with
  | some n => .ok n
  | none =>
    match numeral t with
    | some n => if n ≤ 15 then .ok n else .error .slotTooBig
    | none => .error .badLine

/-- A handler operand: a numeral 0..0xFFFF (R79). -/
def handlerOperand (t : Token) : Except AsmError Handler :=
  match numeral t with
  | some n => if n ≤ 0xFFFF then .ok (BitVec.ofNat 16 n) else .error .handlerTooBig
  | none => .error .badLine

/-- `TICKS n` (R80): "`n` copies of `TICK`, in sequence". -/
def ticksExpansion (t : Token) : Except AsmError (List Instr) :=
  match numeral t with
  | some n => .ok (List.replicate n .tick)
  | none => .error .badLine

/-- `REG slot, handler` (R79), and `REG slot, NONE` for `UNREG slot` (R80). -/
def regLine (s h : Token) : Except AsmError (List Instr) :=
  match slotOperand s with
  | .error e => .error e
  | .ok slot =>
    if h == ['N', 'O', 'N', 'E'] then .ok [.unreg slot]
    else
      match handlerOperand h with
      | .error e => .error e
      | .ok ref => .ok [.reg slot ref]

/-- A line whose only operand is a slot. -/
def slotLine (make : Nat → Instr) (s : Token) : Except AsmError (List Instr) :=
  match slotOperand s with
  | .error e => .error e
  | .ok slot => .ok [make slot]

/-- The commands of a line's tokens (R79, R80); a line without a token has none. -/
def assembleTokens (ts : List Token) : Except AsmError (List Instr) :=
  if ts == [] then .ok []
  else if ts == [['T', 'I', 'C', 'K']] then .ok [.tick]
  else if ts == [['D', 'I', 'S', 'P', 'A', 'T', 'C', 'H']] then .ok [.dispatch]
  else if ts == [['C', 'B', 'R', 'E', 'T']] then .ok [.cbret]
  else
    match ts with
    | [m, a] =>
      if m == ['U', 'N', 'R', 'E', 'G'] then slotLine .unreg a
      else if m == ['R', 'D', 'O', 'V', 'F'] then slotLine .rdovf a
      else if m == ['R', 'D', 'D', 'U', 'E'] then slotLine .rddue a
      else if m == ['T', 'I', 'C', 'K', 'S'] then ticksExpansion a
      else .error .badLine
    | [m, a, comma, b] =>
      if m == ['R', 'E', 'G'] && comma == [','] then regLine a b else .error .badLine
    | _ => .error .badLine

/-- The commands a line spells. -/
def assembleLine (line : List Char) : Except AsmError (List Instr) :=
  assembleTokens (tokensFrom [] (uncomment line))

/-- The command words of a program, one line after the other; the first bad line rejects it. -/
def assemble : List (List Char) → Except AsmError (List Word)
  | [] => .ok []
  | line :: rest =>
    match assembleLine line with
    | .error e => .error e
    | .ok is =>
      match assemble rest with
      | .error e => .error e
      | .ok ws => .ok (is.map encode ++ ws)

end Sys2Proof.Machine
end

