-- ==== Sys2Proof/Safety.lean ====
section
/-! DEFINITION. What counts as a safe run, the invariants of R39, and the terms the statements use: frames, and runs of one
unit with no concurrent step. -/

namespace Sys2Proof.Machine

/-! ### Safe runs and invariants -/

/-- R151: "A claim about a run whose host issues such a command is a claim the model cannot prove": a run is one a claim
may be about as long as no command has been refused. -/
def State.Safe (s : State) : Prop := s.refused = false

/-- R166: "The block is *quiescent* when `TU = T_IDLE` and `DS = D_IDLE`." -/
def State.Quiescent (s : State) : Prop := s.tu = .idle ∧ s.ds = .idle

/-- R39 (a), (b), (c). Between TICKs, `tick < TPS`. During one, `1 <= tick <= TPS`; a slot whose TICK_FLAG is pending is
activated by this tick, and so is one whose TICK_OVF is pending, whose TICK_FLAG has run. -/
def State.Inv (s : State) : Prop :=
  match s.tu with
  | .idle => s.tick.toNat < tps s.params
  | .run flagq ovfq =>
    1 ≤ s.tick.toNat ∧ s.tick.toNat ≤ tps s.params ∧
    (∀ i, slotGet flagq i = true → lane s.params s.tick i = true) ∧
    (∀ i, slotGet ovfq i = true → lane s.params s.tick i = true ∧ slotGet flagq i = false)

/-! ### Frames -/

/-- The registers of R20 are unchanged (all but the model's mark `refused`). -/
def SameHardware (s t : State) : Prop :=
  t.tick = s.tick ∧ t.due = s.due ∧ t.ovf = s.ovf ∧ t.cb = s.cb ∧ t.tu = s.tu ∧ t.ds = s.ds ∧
    t.cbsnap = s.cbsnap

/-- What a command leaves unchanged beside the registers: the parameters, the agents and the plan. -/
def SameBookkeeping (s t : State) : Prop :=
  t.params = s.params ∧ t.issuer = s.issuer ∧ t.tickBy = s.tickBy ∧ t.passBy = s.passBy ∧
    t.plan = s.plan ∧ t.draws = s.draws

/-- The command of agent `s.issuer` is gone from its port, it was given `r`, and no other port changed. -/
def CommandTaken (r : Reply) (s t : State) : Prop :=
  getPort t.ports s.issuer = ⟨(getPort s.ports s.issuer).cmds.tail, r⟩ ∧
    ∀ a, a ≠ s.issuer → getPort t.ports a = getPort s.ports a

/-- The accepted command of agent `a` completes: `a` is told so, and nothing else of the ports changes. -/
def CommandCompleted (a : HostAgent) (s t : State) : Prop :=
  getPort t.ports a = ⟨(getPort s.ports a).cmds, .done⟩ ∧
    ∀ b, b ≠ a → getPort t.ports b = getPort s.ports b

/-- What a step of the tick unit or the sequencer leaves unchanged beside the registers, the ports set apart: one entry of
the plan and one draw are used up (the model's own, log entry 1). -/
def InternalStep (s t : State) : Prop :=
  t.params = s.params ∧ t.refused = s.refused ∧ t.issuer = s.issuer ∧ t.tickBy = s.tickBy ∧
    t.passBy = s.passBy ∧ t.plan = s.plan.tail ∧ t.draws = s.draws + 1

/-- The next step is agent `a`'s, and the word it presents spells `i`. -/
def Performs (s : State) (a : HostAgent) (i : Instr) : Prop :=
  nextMove s = some (.host a) ∧ ∃ w rest, (getPort s.ports a).cmds = w :: rest ∧ decode w = .ok i

/-! ### Which commands are refused, and which a pass admits -/

/-- The table of R151: the condition under which the word `w`, presented in state `s`, is refused for each reason. -/
def RefusedFor (s : State) (w : Word) : RefuseReason → Prop
  | .reservedOpcode => decode w = .error .reservedOpcode
  | .reservedBits => decode w = .error .reservedBits
  | .dispatchBusy => decode w = .ok .dispatch ∧ s.ds ≠ .idle
  | .cbretUnexpected => decode w = .ok .cbret ∧ invokeOut s = none
  | .slotRange => ∃ id, 8 ≤ id ∧ (decode w = .ok (.rdovf id) ∨ decode w = .ok (.rddue id))

/-- The commands R115 admits while a pass is in progress, a TICK where none is held back by one in progress (R100). -/
def AdmittedInPass (s : State) : Instr → Prop
  | .tick => s.tu = .idle
  | .dispatch => False
  | .reg _ _ => True
  | .unreg _ => True
  | .rdovf id => id < 8
  | .rddue id => id < 8
  | .cbret => invokeOut s ≠ none

/-! ### Runs with no concurrent step -/

/-- The commands `is`, one after the other, each performed by `exec` with no other step between. -/
def runCommands : List Instr → State → Option State
  | [], s => some s
  | i :: is, s =>
    match exec i s with
    | .next t => runCommands is t
    | .fault _ => none
    | .refused _ => none

/-- The moves `ms` of the tick unit, each enabled where it is taken, with no other agent's step between. -/
def runTickMoves : List Move → State → Option State
  | [], s => some s
  | m :: ms, s =>
    if (tickMoves s).contains m then
      match runMove m s with
      | .next t => runTickMoves ms t
      | .fault _ => none
      | .refused _ => none
    else none

/-- Whole TICKs, one after the other, with no other step between: each entry of the list is the schedule of the moves after
the acceptance of one TICK, up to `T_IDLE` (none of them where `TICK_ATOMIC` is true). -/
def runWholeTicks : List (List Move) → State → Option State
  | [], s => some s
  | ms :: rest, s =>
    match exec .tick s with
    | .next begun =>
      match runTickMoves ms begun with
      | some t => if tickRunning t then none else runWholeTicks rest t
      | none => none
    | .fault _ => none
    | .refused _ => none

/-- How often `n` TICKs from state `s` activate slot `i` (R101): floor((tick + n) / INTERVAL[i]) - floor(tick /
INTERVAL[i]), which from reset is floor(n / INTERVAL[i]). -/
def activations (s : State) (n : Nat) (i : Slot) : Nat :=
  (s.tick.toNat + n) / interval s.params i - s.tick.toNat / interval s.params i

/-- How many of these activations find the flag of slot `i` set (R102, R103): all of them where it is set in `s`, else all
but the first. -/
def misses (s : State) (n : Nat) (i : Slot) : Nat :=
  if slotGet s.due i then activations s n i else activations s n i - 1

/-- What `n` whole TICKs from `s` leave (R101, R102, R103, R121): the count goes on by `n` modulo `TPS`; a flag is set where
it was or the slot is activated; a counter is incremented once a miss, which below `MAX` adds the misses. -/
def AfterTicks (n : Nat) (s t : State) : Prop :=
  t.tick.toNat = (s.tick.toNat + n) % tps s.params ∧
  (∀ i,
    slotGet t.due i = (slotGet s.due i || decide (1 ≤ activations s n i)) ∧
    slotGet t.ovf i = (inc s.params.ovfPolicy)^[misses s n i] (slotGet s.ovf i) ∧
    ((slotGet s.ovf i).toNat + misses s n i ≤ 2 ^ 32 - 1 →
      (slotGet t.ovf i).toNat = (slotGet s.ovf i).toNat + misses s n i)) ∧
  t.tu = .idle ∧ t.cb = s.cb ∧ t.ds = s.ds ∧ t.cbsnap = s.cbsnap ∧ t.refused = s.refused ∧ t.params = s.params

/-- How many slots a set holds. -/
def countSlots (q : SlotSet) : Nat := (slots.filter fun i => slotGet q i).length

/-- A bound on the steps the tick unit still has to take (R64). -/
def tickWork (s : State) : Nat :=
  match s.tu with
  | .idle => 0
  | .run flagq ovfq => 2 * countSlots flagq + countSlots ovfq + 1

/-- How far a pass has come: between two slots, or in the callback of one (R29). -/
def passPosition : Sequencer → Nat
  | .idle => 0
  | .scan c => 2 * c.val
  | .await c _ => 2 * c.val + 1

/-- `n` steps of a pass with no concurrent step, the host answering each INVOKE with CBRET at once, and the INVOKE requests
in the order in which they were made. -/
def servicePass (v : View) : Nat → State → State × List (Slot × Handler)
  | 0, s => (s, [])
  | n + 1, s =>
    match s.ds with
    | .idle => (s, [])
    | .scan cur => servicePass v n (if cur = 8 then scanEnd s else scan v s)
    | .await c h =>
      match exec .cbret s with
      | .next t => ((servicePass v n t).1, (c, h) :: (servicePass v n t).2)
      | .fault _ => (s, [])
      | .refused _ => (s, [])

end Sys2Proof.Machine
end

