-- ==== Sys2Proof/Certificates/Slice0/Obligations.lean ====
section
/-! DEFINITION. The statements about the model, for the provers. Each names the rules of spec/ it comes from. -/

open Sys2Proof Sys2Proof.Machine

/-! ### Reset and the invariants -/

/-- R171: the reset value of every state element, the hardwired interval table (R22) among them. -/
def Obligations.ResetValuesOfEveryElement : Prop :=
  State.reset.tick = 0 ∧
  (∀ i, slotGet State.reset.due i = false) ∧
  (∀ i, slotGet State.reset.ovf i = 0) ∧
  (∀ i, slotGet State.reset.cb i = none) ∧
  (slotTab (interval State.reset.params) = #v[1000, 500, 200, 100, 50, 20, 10, 5]) ∧
  State.reset.tu = .idle ∧
  State.reset.ds = .idle ∧
  (∀ i, slotGet State.reset.cbsnap i = none) ∧
  State.reset.refused = false ∧
  invokeOut State.reset = none

/-- R39 (a) to (c) hold at reset. -/
def Obligations.ResetMeetsInvariant : Prop := State.reset.Inv

/-- R39 (a) to (c): every step keeps them, from every state that meets them. -/
def Obligations.EveryStepKeepsInvariant : Prop :=
  ∀ s t : State, s.Inv → step s = .next t → t.Inv

/-! ### Encoding -/

/-- R71, R72, R79: decoding the word of a command that can be encoded gives the command, with every operand. -/
def Obligations.DecodeOfEncodeIsTheCommand : Prop :=
  ∀ i : Instr, i.wellFormed = true → decode (encode i) = .ok i

/-- R70 to R73: a word that spells a command is the word of that command, which can be encoded. -/
def Obligations.EncodeOfDecodeIsTheWord : Prop :=
  ∀ (w : Word) (i : Instr), decode w = .ok i → encode i = w ∧ i.wellFormed = true

/-- R73: a word spells the mnemonic of `i`'s row exactly when it matches the row under its mask. -/
def Obligations.WordSpellsMnemonicByMatchAndMask : Prop :=
  ∀ (w : Word) (i : Instr),
    w &&& i.rowMask = i.rowMatch ↔ ∃ j, decode w = .ok j ∧ j.rowMatch = i.rowMatch

/-- R74: which words are refused as RESERVED_OPCODE, whatever their other bits. Where a host agent (R162) presents one, no
register changes and the mark is set (R13, R151). That this is a next state, that the command is gone and that the agent
finds the reason in its port is the model's (log entries 7 and 8). -/
def Obligations.ReservedOpcodeIsRefused : Prop :=
  (∀ w : Word, decode w = .error .reservedOpcode ↔ (opField w = 0 ∨ 7 ≤ (opField w).toNat)) ∧
  ∀ (s : State) (a : HostAgent) (w : Word) (rest : List Word),
    nextMove s = some (.host a) → (getPort s.ports a).cmds = w :: rest →
    (opField w = 0 ∨ 7 ≤ (opField w).toNat) →
    ∃ t, step s = .next t ∧ SameHardware s t ∧ t.refused = true ∧
      getPort t.ports a = ⟨rest, .refused .reservedOpcode⟩

/-- R75: a word whose `OP` is defined and which matches no row of the opcode map (R73) is refused as RESERVED_BITS. Where a
host agent (R162) presents one, no register changes and the mark is set (R13, R151). That this is a next state, that the
command is gone and that the agent finds the reason in its port is the model's (log entries 7 and 8). -/
def Obligations.ReservedBitsAreRefused : Prop :=
  (∀ w : Word, decode w = .error .reservedBits ↔
    (1 ≤ (opField w).toNat ∧ (opField w).toNat ≤ 6 ∧ ∀ i : Instr, w &&& i.rowMask ≠ i.rowMatch)) ∧
  ∀ (s : State) (a : HostAgent) (w : Word) (rest : List Word),
    nextMove s = some (.host a) → (getPort s.ports a).cmds = w :: rest →
    decode w = .error .reservedBits →
    ∃ t, step s = .next t ∧ SameHardware s t ∧ t.refused = true ∧
      getPort t.ports a = ⟨rest, .refused .reservedBits⟩

/-- R81: the encoding examples. -/
def Obligations.EncodingExamplesDecode : Prop :=
  decode 0x10000000 = .ok .tick ∧
  decode 0x20000000 = .ok .dispatch ∧
  decode 0x60000000 = .ok .cbret ∧
  decode 0x338000A1 = .ok (.reg 3 0x00A1) ∧
  decode 0x378000B7 = .ok (.reg 7 0x00B7) ∧
  decode 0x3080FFFF = .ok (.reg 0 0xFFFF) ∧
  decode 0x38800001 = .ok (.reg 8 0x0001) ∧
  decode 0x3F800000 = .ok (.reg 15 0) ∧
  decode 0x33000000 = .ok (.unreg 3) ∧
  decode 0x47000000 = .ok (.rdovf 7) ∧
  decode 0x40000000 = .ok (.rdovf 0) ∧
  decode 0x53000000 = .ok (.rddue 3) ∧
  decode 0x00000000 = .error .reservedOpcode ∧
  decode 0x10000001 = .error .reservedBits ∧
  decode 0x30000001 = .error .reservedBits ∧
  decode 0x30810000 = .error .reservedBits ∧
  decode 0x21000000 = .error .reservedBits ∧
  decode 0x70000000 = .error .reservedOpcode ∧
  decode 0xF3800001 = .error .reservedOpcode

/-- R51, R52: a word serialised as bytes, least significant byte first, is decoded as the word. R51 calls the serialisation
the spec's own convention, no property of the block. The byte decoder is the model's (log entry 11, DEDUCED): that it hands
the bytes after the word back and that fewer than four bytes are no command word. -/
def Obligations.SerialisedWordDecodesAsTheWord : Prop :=
  (∀ (w : Word) (rest : List Byte), decodeBytes (wordBytes w ++ rest) = some (decode w, rest)) ∧
  ∀ bs : List Byte, decodeBytes bs = none ↔ bs.length < 4

/-- R78, R110, R39 (d): the fields of the INVOKE word, and that it is presented exactly in `D_AWAIT(c, h)`. -/
def Obligations.InvokeWordIsPresentedWhileAwaiting : Prop :=
  (∀ (c : Slot) (h : Handler),
    (invokeWord c h).extractLsb' 28 4 = 0 ∧ ((invokeWord c h).extractLsb' 24 4).toNat = c.val ∧
    (invokeWord c h).extractLsb' 16 8 = 0 ∧ (invokeWord c h).extractLsb' 0 16 = h) ∧
  ∀ (s : State) (x : Word), invokeOut s = some x ↔ ∃ c h, s.ds = .await c h ∧ x = invokeWord c h

/-- R79: the word each assembler form encodes, for every operand that can be encoded. -/
def Obligations.AssemblerFormsEncode : Prop :=
  encode .tick = 0x10000000 ∧ encode .dispatch = 0x20000000 ∧ encode .cbret = 0x60000000 ∧
  ∀ (slot : Nat) (h : Handler), slot ≤ 15 →
    (encode (.reg slot h) = 0x30800000 ||| (BitVec.ofNat 32 slot <<< 24) ||| h.setWidth 32) ∧
    (encode (.unreg slot) = 0x30000000 ||| (BitVec.ofNat 32 slot <<< 24)) ∧
    (encode (.rdovf slot) = 0x40000000 ||| (BitVec.ofNat 32 slot <<< 24)) ∧
    (encode (.rddue slot) = 0x50000000 ||| (BitVec.ofNat 32 slot <<< 24))

/-- R80: the expansions of the pseudo-instructions. -/
def Obligations.PseudoInstructionsExpand : Prop :=
  (∀ (t : Token) (n : Nat), numeral t = some n →
    assembleTokens [['T', 'I', 'C', 'K', 'S'], t] = .ok (List.replicate n .tick)) ∧
  ∀ (t : Token) (slot : Nat), slotOperand t = .ok slot →
    assembleTokens [['R', 'E', 'G'], t, [','], ['N', 'O', 'N', 'E']] = .ok [.unreg slot]

/-! ### The agents and the choice of the next step -/

/-- A step of a host agent performs the command its word spells: `exec` of it, by that agent (R12, R162). That one entry of
the plan and one draw are used up is the model's own (log entry 1). -/
def Obligations.StepRunsThePresentedCommand : Prop :=
  ∀ (s : State) (a : HostAgent) (w : Word) (rest : List Word) (i : Instr),
    nextMove s = some (.host a) → (getPort s.ports a).cmds = w :: rest → decode w = .ok i →
    step s = exec i ((usePlan s).setIssuer a)

/-- The model's own device: `withFetchWord` and `freeAgent` stand for the host's presenting a command (log entry 2, DESIGN
CHOICE), and the plan puts that step next (log entry 1, DESIGN CHOICE). A word presented so is what the very next step runs,
from every state in which it is not a held TICK, to which R100 gives no step. -/
def Obligations.PresentedWordIsRunNext : Prop :=
  ∀ (s : State) (w : Word), isHeld s w = false →
    step (s.withFetchWord 32 w.toNat) =
      runWord (freeAgent s) w (usePlan (present (freeAgent s) w s))

/-- R155: any enabled step may be next, and no other. The plan that names it is the model's (log entry 1, DESIGN CHOICE). -/
def Obligations.AnyEnabledStepMayBeNext : Prop :=
  ∀ (s : State) (m : Move), m ∈ enabled s ↔ ∃ p : List Move, nextMove (s.setPlan p) = some m

/-- R162, R100: when a host agent has a step. It has a command left, it is not waiting for its TICK or its DISPATCH, and
the command is not a TICK that is held. While an INVOKE is outstanding the callback's commands come from the pass's agent
or from `callback`, as `callbackContext` says (the model's parameter, log entry 5). -/
def Obligations.HostAgentStepsAreEnabled : Prop :=
  ∀ (s : State) (a : HostAgent), Move.host a ∈ enabled s ↔
    ∃ w rest, (getPort s.ports a).cmds = w :: rest ∧
      ¬ (s.tu ≠ .idle ∧ s.tickBy = a) ∧
      ¬ (s.tu ≠ .idle ∧ decode w = .ok .tick) ∧
      (s.params.callbackContext = .shared →
        a ≠ .callback ∧ ¬ (s.ds ≠ .idle ∧ invokeOut s = none ∧ s.passBy = a)) ∧
      (s.params.callbackContext = .separate →
        ¬ (s.ds ≠ .idle ∧ s.passBy = a) ∧ (a = .callback → invokeOut s ≠ none))

/-- R64: "Every step of the tick unit and of the dispatch sequencer is enabled whenever its state says so. The one
exception is `D_AWAIT`". -/
def Obligations.UnitsAlwaysHaveAStep : Prop :=
  ∀ s : State,
    (s.tu ≠ .idle → ∃ m, m ∈ tickMoves s ∧ m ∈ enabled s) ∧
    (∀ c, s.ds = .scan c → ∃ m, m ∈ seqMoves s ∧ m ∈ enabled s)

/-- R64: a TICK completes after at most 18 steps of the tick unit: 17 at most after the one that accepts it, each step of
the tick unit lessens what is left, and no other step adds to it. -/
def Obligations.TickCompletesInEighteenSteps : Prop :=
  (∀ s t : State, s.tu = .idle → exec .tick s = .next t → tickWork t ≤ 17) ∧
  (∀ s : State, tickWork s = 0 ↔ s.tu = .idle) ∧
  ∀ (s t : State) (m : Move), nextMove s = some m → step s = .next t → s.tu ≠ .idle →
    (m ∈ tickMoves s → tickWork t < tickWork s) ∧ (m ∉ tickMoves s → tickWork t = tickWork s)

/-- The machine stops only where no agent has a step: then no TICK is in progress, and either an INVOKE is outstanding (the
hang of R166) or the block is quiescent and the host has no command left to present (the end of a run, R166). It never
answers a host refusal. -/
def Obligations.StopsOnlyWithNoStepLeft : Prop :=
  ∀ s : State,
    (∀ f, step s = .fault f ↔ enabled s = [] ∧ f = (if s.ds = .idle then .runOver else .callbackHang)) ∧
    (enabled s = [] →
      (s.Quiescent ∧ ∀ a, a ≠ .callback → (getPort s.ports a).cmds = []) ∨
      (s.tu = .idle ∧ ∃ c h, s.ds = .await c h)) ∧
    ∀ r, step s ≠ .refused r

/-- R150: the block has no exception; every command in every state answers a next state. Two cases are the model's: a
command that R151 refuses answers one in which it is gone and the mark is set (log entry 8, DEDUCED), and a held TICK, to
which R13 and R100 give no step, answers the unchanged state, so that the meaning is total (log entry 9, DEDUCED). -/
def Obligations.EveryCommandAnswersANextState : Prop :=
  ∀ (i : Instr) (s : State), ∃ t, exec i s = .next t

/-! ### TICK -/

/-- R22, R92: the interval table with `TPS` = 1000, and each lane of the comparator array. -/
def Obligations.ComparatorLanesFollowTheTable : Prop :=
  (∀ p : Params, tps p = 1000 →
    slotTab (interval p) = #v[1000, 500, 200, 100, 50, 20, 10, 5] ∧
    slotTab (fun i => tps p / interval p i) = #v[1, 2, 5, 10, 20, 50, 100, 200]) ∧
  (∀ (p : Params) (t : TickCount) (i : Slot), lane p t i = true ↔ t.toNat % interval p i = 0) ∧
  ∀ (p : Params) (t : TickCount) (i : Slot), t.toNat = tps p → lane p t i = true

/-- R8: every `TPS` of the model is a positive multiple of 200 that the counter can hold, and every interval is
`TPS` / `FREQ[i]` with no remainder and divides `TPS`. -/
def Obligations.IntervalsDivideTicksPerSecond : Prop :=
  ∀ (p : Params) (i : Slot),
    0 < tps p ∧ 200 ∣ tps p ∧ tps p < 2 ^ 10 ∧
    interval p i * freq i = tps p ∧ 0 < interval p i ∧ interval p i ∣ tps p

/-- R91: TICK_BEGIN, the split TICK's acceptance. -/
def Obligations.TickBeginEffect : Prop :=
  ∀ s : State, s.tu = .idle → s.params.tickAtomic = false →
    ∃ t, exec .tick s = .next t ∧
      t.tick = s.tick + 1 ∧ (s.Inv → t.tick.toNat = s.tick.toNat + 1) ∧
      (∃ flagq ovfq, t.tu = .run flagq ovfq ∧
        (∀ i, slotGet flagq i = true ↔ t.tick.toNat % interval s.params i = 0) ∧
        (∀ i, slotGet ovfq i = false)) ∧
      t.due = s.due ∧ t.ovf = s.ovf ∧ t.cb = s.cb ∧ t.ds = s.ds ∧ t.cbsnap = s.cbsnap ∧
      t.refused = s.refused ∧ CommandTaken .nothing s t ∧ t.tickBy = s.issuer ∧
      t.params = s.params ∧ t.issuer = s.issuer ∧ t.passBy = s.passBy ∧ t.plan = s.plan ∧ t.draws = s.draws

/-- R98: TICK_ALL, the TICK as one step. -/
def Obligations.TickAllEffect : Prop :=
  ∀ s : State, s.tu = .idle → s.params.tickAtomic = true →
    ∃ t, exec .tick s = .next t ∧
      t.tick = (if (s.tick + 1).toNat = tps s.params then 0 else s.tick + 1) ∧
      (∀ i, (s.tick + 1).toNat % interval s.params i = 0 →
        slotGet t.due i = true ∧
        slotGet t.ovf i = (if slotGet s.due i then inc s.params.ovfPolicy (slotGet s.ovf i) else slotGet s.ovf i)) ∧
      (∀ i, (s.tick + 1).toNat % interval s.params i ≠ 0 →
        slotGet t.due i = slotGet s.due i ∧ slotGet t.ovf i = slotGet s.ovf i) ∧
      t.tu = .idle ∧ t.cb = s.cb ∧ t.ds = s.ds ∧ t.cbsnap = s.cbsnap ∧
      t.refused = s.refused ∧ CommandTaken .done s t ∧ SameBookkeeping s t

/-- R100, R153: a TICK presented while one is in progress is held: its agent has no step. That `exec` answers the unchanged
state there, the command still in its port, is the model's, so that the meaning is total (log entry 9, DEDUCED). -/
def Obligations.TickIsHeldWhileOneRuns : Prop :=
  ∀ s : State, s.tu ≠ .idle →
    exec .tick s = .next s ∧
    ∀ (a : HostAgent) (w : Word) (rest : List Word),
      (getPort s.ports a).cmds = w :: rest → decode w = .ok .tick → Move.host a ∉ enabled s

/-- R93: TICK_FLAG(i), its guard and its effect. -/
def Obligations.TickFlagEffect : Prop :=
  ∀ (s : State) (i : Slot),
    (Move.tickFlag i ∈ enabled s ↔ ∃ flagq ovfq, s.tu = .run flagq ovfq ∧ slotGet flagq i = true ∧
      (s.params.tickOrder = .any ∨ ∀ j, slotGet flagq j = true → i ≤ j)) ∧
    ∀ flagq ovfq, nextMove s = some (.tickFlag i) → s.tu = .run flagq ovfq →
      ∃ t, step s = .next t ∧
        slotGet t.due i = true ∧ (∀ j, j ≠ i → slotGet t.due j = slotGet s.due j) ∧
        (∃ flagq' ovfq', t.tu = .run flagq' ovfq' ∧
          (∀ j, slotGet flagq' j = true ↔ slotGet flagq j = true ∧ j ≠ i) ∧
          (∀ j, slotGet ovfq' j = true ↔ slotGet ovfq j = true ∨ (j = i ∧ slotGet s.due i = true))) ∧
        t.tick = s.tick ∧ t.ovf = s.ovf ∧ t.cb = s.cb ∧ t.ds = s.ds ∧ t.cbsnap = s.cbsnap ∧
        t.ports = s.ports ∧ InternalStep s t

/-- R94: TICK_OVF(i), its guard and its effect. -/
def Obligations.TickOvfEffect : Prop :=
  ∀ (s : State) (i : Slot),
    (Move.tickOvf i ∈ enabled s ↔ ∃ flagq ovfq, s.tu = .run flagq ovfq ∧ slotGet ovfq i = true) ∧
    ∀ flagq ovfq, nextMove s = some (.tickOvf i) → s.tu = .run flagq ovfq →
      ∃ t, step s = .next t ∧
        slotGet t.ovf i = inc s.params.ovfPolicy (slotGet s.ovf i) ∧
        (∀ j, j ≠ i → slotGet t.ovf j = slotGet s.ovf j) ∧
        (∃ ovfq', t.tu = .run flagq ovfq' ∧ ∀ j, slotGet ovfq' j = true ↔ slotGet ovfq j = true ∧ j ≠ i) ∧
        t.tick = s.tick ∧ t.due = s.due ∧ t.cb = s.cb ∧ t.ds = s.ds ∧ t.cbsnap = s.cbsnap ∧
        t.ports = s.ports ∧ InternalStep s t

/-- R95: the increment of an overflow counter, under either policy. -/
def Obligations.CounterIncrementFollowsPolicy : Prop :=
  ovfMax.toNat = 2 ^ 32 - 1 ∧
  (∀ (p : OvfPolicy) (v : Count), v.toNat < 2 ^ 32 - 1 → (inc p v).toNat = v.toNat + 1) ∧
  inc .wrap ovfMax = 0 ∧
  inc .saturate ovfMax = ovfMax

/-- R96: TICK_END, its guard and its effect; the TICK command completes. -/
def Obligations.TickEndEffect : Prop :=
  ∀ s : State,
    (Move.tickEnd ∈ enabled s ↔ ∃ flagq ovfq, s.tu = .run flagq ovfq ∧
      (∀ i, slotGet flagq i = false) ∧ (∀ i, slotGet ovfq i = false)) ∧
    (nextMove s = some .tickEnd →
      ∃ t, step s = .next t ∧
        t.tick = (if s.tick.toNat = tps s.params then 0 else s.tick) ∧ t.tu = .idle ∧
        t.due = s.due ∧ t.ovf = s.ovf ∧ t.cb = s.cb ∧ t.ds = s.ds ∧ t.cbsnap = s.cbsnap ∧
        CommandCompleted s.tickBy s t ∧ InternalStep s t)

/-- R97, R98, R64: with no concurrent step, a split TICK leaves what TICK_ALL leaves, in whatever order its steps are taken,
and it can be run to its end in at most 17 steps after TICK_BEGIN. -/
def Obligations.SplitTickRefinesAtomicTick : Prop :=
  ∀ s : State, s.tu = .idle → s.params.tickAtomic = false →
    ∃ begun whole, exec .tick s = .next begun ∧
      exec .tick { s with params := { s.params with tickAtomic := true } } = .next whole ∧
      (∀ ms t, runTickMoves ms begun = some t → t.tu = .idle →
        SameHardware whole t ∧ t.refused = whole.refused ∧ t.ports = whole.ports) ∧
      ∃ ms t, ms.length ≤ 17 ∧ runTickMoves ms begun = some t ∧ t.tu = .idle

/-- R101, R102, R103, R121: `n` whole TICKs with no other step, from any count and any flags, under either setting of
`TICK_ATOMIC`. Whatever schedule the split TICKs take, they leave what `AfterTicks` says: with m activations of slot `i` the
flag is set where it was or m >= 1, and the counter is incremented m times, less one where the flag was clear. Some schedule
takes `n` whole TICKs, in at most 17 moves each after the acceptance. Where `TICK_ATOMIC` is true, `n` TICK commands in a
row are such a run. -/
def Obligations.AccumulationLawOfTicks : Prop :=
  ∀ (s : State) (n : Nat), s.tu = .idle → s.Inv →
    (∀ schedules t, schedules.length = n → runWholeTicks schedules s = some t → AfterTicks n s t) ∧
    (∃ schedules t, schedules.length = n ∧ (∀ ms ∈ schedules, ms.length ≤ 17) ∧
      runWholeTicks schedules s = some t) ∧
    (s.params.tickAtomic = true →
      ∃ t, runCommands (List.replicate n .tick) s = some t ∧ AfterTicks n s t)

/-! ### DISPATCH and CBRET -/

/-- R111: DISPATCH is accepted while no pass is in progress. -/
def Obligations.DispatchAcceptEffect : Prop :=
  ∀ s : State, s.ds = .idle →
    ∃ t, exec .dispatch s = .next t ∧
      t.cbsnap = s.cb ∧ t.ds = .scan 0 ∧
      t.tick = s.tick ∧ t.due = s.due ∧ t.ovf = s.ovf ∧ t.cb = s.cb ∧ t.tu = s.tu ∧
      t.refused = s.refused ∧ CommandTaken .nothing s t ∧ t.passBy = s.issuer ∧
      t.params = s.params ∧ t.issuer = s.issuer ∧ t.tickBy = s.tickBy ∧ t.plan = s.plan ∧ t.draws = s.draws

/-- R111, R157: DISPATCH is refused as DISPATCH_BUSY while a pass is in progress, a callback's own among them; no register
changes and the mark is set (R13, R151). That the refusal is a next state, that the command is gone and that its agent finds
the reason in its port is the model's (log entries 7 and 8). -/
def Obligations.NestedDispatchIsRefused : Prop :=
  ∀ s : State, s.ds ≠ .idle →
    ∃ t, exec .dispatch s = .next t ∧ SameHardware s t ∧ t.refused = true ∧
      CommandTaken (.refused .dispatchBusy) s t ∧ SameBookkeeping s t

/-- R112: SCAN(c), its guard, the callback values it may read, and its effect. -/
def Obligations.ScanEffect : Prop :=
  ∀ s : State,
    ((∃ v, Move.scan v ∈ enabled s) ↔ ∃ c : Slot, s.ds = .scan c.castSucc) ∧
    ∀ c : Slot, s.ds = .scan c.castSucc →
      (slotGet s.due c = true → ∀ x,
        (∃ v, Move.scan v ∈ enabled s ∧ callbackFor v c s = x) ↔
          match s.params.regVisibility with
          | .live => x = slotGet s.cb c
          | .snapshot => x = slotGet s.cbsnap c
          | .either => x = slotGet s.cb c ∨ x = slotGet s.cbsnap c) ∧
      ∀ v, nextMove s = some (.scan v) →
        ∃ t, step s = .next t ∧
          slotGet t.due c = false ∧ (∀ j, j ≠ c → slotGet t.due j = slotGet s.due j) ∧
          t.ds = (if slotGet s.due c then
                    match callbackFor v c s with
                    | some h => .await c h
                    | none => .scan c.succ
                  else .scan c.succ) ∧
          t.tick = s.tick ∧ t.ovf = s.ovf ∧ t.cb = s.cb ∧ t.tu = s.tu ∧ t.cbsnap = s.cbsnap ∧
          t.ports = s.ports ∧ InternalStep s t

/-- R113: SCAN_END, its guard and its effect; the DISPATCH command completes. -/
def Obligations.ScanEndEffect : Prop :=
  ∀ s : State,
    (Move.scanEnd ∈ enabled s ↔ s.ds = .scan 8) ∧
    (nextMove s = some .scanEnd →
      ∃ t, step s = .next t ∧ t.ds = .idle ∧
        t.tick = s.tick ∧ t.due = s.due ∧ t.ovf = s.ovf ∧ t.cb = s.cb ∧ t.tu = s.tu ∧ t.cbsnap = s.cbsnap ∧
        CommandCompleted s.passBy s t ∧ InternalStep s t)

/-- R114: CBRET withdraws the outstanding INVOKE and moves the cursor on; the INVOKE output is not asserted then. -/
def Obligations.CbretEffect : Prop :=
  ∀ (s : State) (c : Slot) (h : Handler), s.ds = .await c h →
    ∃ t, exec .cbret s = .next t ∧ t.ds = .scan c.succ ∧ invokeOut t = none ∧
      t.tick = s.tick ∧ t.due = s.due ∧ t.ovf = s.ovf ∧ t.cb = s.cb ∧ t.tu = s.tu ∧ t.cbsnap = s.cbsnap ∧
      t.refused = s.refused ∧ CommandTaken .done s t ∧ SameBookkeeping s t

/-- R114: a CBRET with no invocation outstanding is refused as CBRET_UNEXPECTED; no register changes and the mark is set
(R13, R151). That the refusal is a next state, that the command is gone and that its agent finds the reason in its port is
the model's (log entries 7 and 8). -/
def Obligations.StrayCbretIsRefused : Prop :=
  ∀ s : State, invokeOut s = none →
    ∃ t, exec .cbret s = .next t ∧ SameHardware s t ∧ t.refused = true ∧
      CommandTaken (.refused .cbretUnexpected) s t ∧ SameBookkeeping s t

/-- R110, R131: INVOKE(c, h) stays outstanding until a CBRET is performed, whatever else happens. -/
def Obligations.InvokeStaysUntilCbret : Prop :=
  ∀ (s t : State) (c : Slot) (h : Handler), s.ds = .await c h → step s = .next t →
    t.ds = .await c h ∨ (t.ds = .scan c.succ ∧ ∃ a, Performs s a .cbret)

/-- R29, R117: a pass goes on slot by slot. No step moves it back or skips a slot: in each step the position stays, or the
cursor goes on by one, or an INVOKE for the cursor's slot is presented, or the pass ends at cursor 8. A pass starts at
cursor 0, by DISPATCH. -/
def Obligations.PassServesSlotsInOrder : Prop :=
  ∀ s t : State, step s = .next t →
    (s.ds = .idle → t.ds = .idle ∨ (t.ds = .scan 0 ∧ ∃ a, Performs s a .dispatch)) ∧
    (∀ c : Slot, s.ds = .scan c.castSucc →
      t.ds = s.ds ∨ t.ds = .scan c.succ ∨ ∃ h, t.ds = .await c h) ∧
    (∀ (c : Slot) (h : Handler), s.ds = .await c h → t.ds = s.ds ∨ t.ds = .scan c.succ) ∧
    (s.ds = .scan 8 → t.ds = s.ds ∨ t.ds = .idle) ∧
    (s.ds ≠ .idle → t.ds ≠ .idle → t.ds ≠ s.ds → passPosition s.ds < passPosition t.ds)

/-- R112, R117, R118, R122: a pass with no concurrent step, each INVOKE answered at once. Every due flag is cleared, the
INVOKE requests are those of the due slots that have a callback, one each, in slot order, and no counter, callback or
tick is touched. -/
def Obligations.WholePassServesEveryDueSlot : Prop :=
  ∀ (s : State) (v : View), s.ds = .idle →
    ∃ accepted t invokes, exec .dispatch s = .next accepted ∧
      servicePass v 17 accepted = (t, invokes) ∧
      t.ds = .idle ∧ (∀ i, slotGet t.due i = false) ∧
      invokes = slots.filterMap (fun c =>
        if slotGet s.due c then (slotGet s.cb c).map (fun h => (c, h)) else none) ∧
      t.tick = s.tick ∧ t.ovf = s.ovf ∧ t.cb = s.cb ∧ t.tu = s.tu ∧ t.cbsnap = s.cb ∧ t.refused = s.refused

/-! ### REG, UNREG, RDOVF, RDDUE -/

/-- R130, R134: REG writes the one callback slot its identifier names, none where it names none, in every state. That an
identifier above 15, which no word spells, names none is the model's (log entry 22, DESIGN CHOICE). -/
def Obligations.RegEffect : Prop :=
  ∀ (s : State) (id : Nat) (h : Handler),
    ∃ t, exec (.reg id h) s = .next t ∧
      (∀ i : Slot, slotGet t.cb i = if i.val = id then some h else slotGet s.cb i) ∧
      t.tick = s.tick ∧ t.due = s.due ∧ t.ovf = s.ovf ∧ t.tu = s.tu ∧ t.ds = s.ds ∧ t.cbsnap = s.cbsnap ∧
      t.refused = s.refused ∧ CommandTaken .done s t ∧ SameBookkeeping s t

/-- R131, R134: UNREG empties the one callback slot its identifier names, none where it names none, in every state; an
outstanding INVOKE stays. That an identifier above 15, which no word spells, names none is the model's (log entry 22, DESIGN
CHOICE). -/
def Obligations.UnregEffect : Prop :=
  ∀ (s : State) (id : Nat),
    ∃ t, exec (.unreg id) s = .next t ∧
      (∀ i : Slot, slotGet t.cb i = if i.val = id then none else slotGet s.cb i) ∧
      t.tick = s.tick ∧ t.due = s.due ∧ t.ovf = s.ovf ∧ t.tu = s.tu ∧ t.ds = s.ds ∧ t.cbsnap = s.cbsnap ∧
      invokeOut t = invokeOut s ∧
      t.refused = s.refused ∧ CommandTaken .done s t ∧ SameBookkeeping s t

/-- R132: RDOVF returns the counter of the slot named, in every state, and changes nothing. -/
def Obligations.RdovfEffect : Prop :=
  ∀ (s : State) (i : Slot),
    ∃ t, exec (.rdovf i.val) s = .next t ∧ SameHardware s t ∧ t.refused = s.refused ∧
      CommandTaken (.value (slotGet s.ovf i)) s t ∧ SameBookkeeping s t

/-- R133: RDDUE returns the flag of the slot named as a word, in every state, and changes nothing. -/
def Obligations.RddueEffect : Prop :=
  ∀ (s : State) (i : Slot),
    ∃ t, exec (.rddue i.val) s = .next t ∧ SameHardware s t ∧ t.refused = s.refused ∧
      CommandTaken (.value (if slotGet s.due i then 1 else 0)) s t ∧ SameBookkeeping s t

/-- R132, R133: a read of an identifier that names no slot is refused as SLOT_RANGE, and there is no response; no register
changes and the mark is set (R13, R151). That the refusal is a next state, that the command is gone and that its agent finds
the reason in its port is the model's (log entries 7 and 8), and so is that the identifiers above 15, which no word spells,
are treated as 8 to 15 (log entry 22). -/
def Obligations.OutOfRangeReadIsRefused : Prop :=
  ∀ (s : State) (id : Nat) (i : Instr), 8 ≤ id → (i = .rdovf id ∨ i = .rddue id) →
    ∃ t, exec i s = .next t ∧ SameHardware s t ∧ t.refused = true ∧
      CommandTaken (.refused .slotRange) s t ∧ SameBookkeeping s t

/-- R56: REG and UNREG are idempotent, and a read repeated with no step in between returns the same value. That a read of no
slot goes on, refused alike both times, is the model's (log entry 8), and so are the identifiers above 15 (log entry 22). -/
def Obligations.RegistrationAndReadsRepeat : Prop :=
  ∀ (s t u : State) (i : Instr) (id : Nat) (h : Handler),
    (i = .reg id h ∨ i = .unreg id ∨ i = .rdovf id ∨ i = .rddue id) →
    exec i s = .next t → exec i t = .next u →
    SameHardware t u ∧ u.refused = t.refused ∧
      (getPort u.ports s.issuer).reply = (getPort t.ports s.issuer).reply

/-! ### What no step does, and who may write each register -/

/-- R151, R38: the refusal mark is never cleared. -/
def Obligations.RefusalMarkIsNeverCleared : Prop :=
  ∀ s t : State, step s = .next t → s.refused = true → t.refused = true

/-- R151, R13: "A refused command changes no hardware state", whether or not the mark is set before. In a step of a host
agent that presents `w`, the agent is told a reason exactly where the table of R151 gives it, and then no register changes
and the mark is set; a step that sets the mark is such a step. That the agent finds the reason in its port is the model's
(log entry 7), and so is that a refusal is a next state (log entry 8). -/
def Obligations.RefusedCommandChangesNoRegister : Prop :=
  (∀ (s t : State) (a : HostAgent) (w : Word) (rest : List Word),
    nextMove s = some (.host a) → (getPort s.ports a).cmds = w :: rest → step s = .next t →
    ∀ why, ((getPort t.ports a).reply = .refused why ↔ RefusedFor s w why) ∧
      (RefusedFor s w why → SameHardware s t ∧ t.refused = true)) ∧
  ∀ s t : State, step s = .next t → s.Safe → ¬ t.Safe →
    SameHardware s t ∧
      ∃ a w rest why, nextMove s = some (.host a) ∧ (getPort s.ports a).cmds = w :: rest ∧ RefusedFor s w why

/-- R24: the tick counter is written only by the acceptance of a TICK and by TICK_END. -/
def Obligations.TickCounterIsWrittenOnlyByTheTickUnit : Prop :=
  ∀ s t : State, step s = .next t → t.tick ≠ s.tick →
    nextMove s = some .tickEnd ∨ ∃ a, Performs s a .tick

/-- R25, R31, R39 (e): a due flag is set only by its own activation, and cleared only by the SCAN of its own slot. -/
def Obligations.DueFlagWriters : Prop :=
  ∀ (s t : State) (i : Slot), s.Inv → step s = .next t →
    (slotGet s.due i = false → slotGet t.due i = true →
      (nextMove s = some (.tickFlag i) ∧ lane s.params s.tick i = true) ∨
      (s.params.tickAtomic = true ∧ lane s.params (s.tick + 1) i = true ∧ ∃ a, Performs s a .tick)) ∧
    (slotGet s.due i = true → slotGet t.due i = false →
      s.ds = .scan i.castSucc ∧ ∃ v, nextMove s = some (.scan v))

/-- R26: an overflow counter is written only by the tick unit, by the increment, for a slot whose flag was found set. -/
def Obligations.OverflowCounterWriters : Prop :=
  ∀ (s t : State) (i : Slot), step s = .next t → slotGet t.ovf i ≠ slotGet s.ovf i →
    slotGet t.ovf i = inc s.params.ovfPolicy (slotGet s.ovf i) ∧
    (nextMove s = some (.tickOvf i) ∨
      (s.params.tickAtomic = true ∧ slotGet s.due i = true ∧ lane s.params (s.tick + 1) i = true ∧
        ∃ a, Performs s a .tick))

/-- R27, R134: a callback slot is written only by a REG or UNREG that names it. -/
def Obligations.CallbackSlotWriters : Prop :=
  ∀ (s t : State) (i : Slot), step s = .next t → slotGet t.cb i ≠ slotGet s.cb i →
    (∃ a h, Performs s a (.reg i.val h) ∧ slotGet t.cb i = some h) ∨
    (∃ a, Performs s a (.unreg i.val) ∧ slotGet t.cb i = none)

/-- R37: the snapshot is loaded, with the whole of `cb`, only by the acceptance of a DISPATCH. -/
def Obligations.SnapshotIsLoadedOnlyByDispatch : Prop :=
  ∀ s t : State, step s = .next t → t.cbsnap ≠ s.cbsnap →
    t.cbsnap = s.cb ∧ s.ds = .idle ∧ t.ds = .scan 0 ∧ ∃ a, Performs s a .dispatch

/-- R7: the parameters are arguments of the model: no step changes one. -/
def Obligations.ParametersNeverChange : Prop :=
  ∀ s t : State, step s = .next t → t.params = s.params

/-- R119: the dispatch family neither reads nor writes `tick` and `ovf`: with other values there, it does the same to the
rest and leaves those values. -/
def Obligations.DispatchIgnoresTickAndCounters : Prop :=
  ∀ (s : State) (x : TickCount) (y : PerSlot Count) (v : View),
    scan v ((s.setTick x).setOvf y) = ((scan v s).setTick x).setOvf y ∧
    scanEnd ((s.setTick x).setOvf y) = ((scanEnd s).setTick x).setOvf y ∧
    ∀ i t, (i = .dispatch ∨ i = .cbret) → exec i s = .next t →
      exec i ((s.setTick x).setOvf y) = .next ((t.setTick x).setOvf y)

/-- R99: TICK and its steps neither read nor write the callback slots, the snapshot and the sequencer. -/
def Obligations.TickIgnoresCallbacksAndPass : Prop :=
  ∀ (s : State) (x y : PerSlot Callback) (z : Sequencer) (i : Slot),
    tickFlag i (((s.setCb x).setCbsnap y).setDs z) = (((tickFlag i s).setCb x).setCbsnap y).setDs z ∧
    tickOvf i (((s.setCb x).setCbsnap y).setDs z) = (((tickOvf i s).setCb x).setCbsnap y).setDs z ∧
    tickEnd (((s.setCb x).setCbsnap y).setDs z) = (((tickEnd s).setCb x).setCbsnap y).setDs z ∧
    ∀ t, exec .tick s = .next t →
      exec .tick (((s.setCb x).setCbsnap y).setDs z) = .next (((t.setCb x).setCbsnap y).setDs z)

/-! ### Interleavings -/

/-- R176, R60: TICK_FLAG(i) and SCAN(i) of a slot whose flag is set may come in either order. SCAN first: the flag ends set
and no miss is pending. TICK_FLAG first: the flag ends clear, a miss is pending, and TICK_OVF(i) still counts it. -/
def Obligations.TickAndScanRaceBothWays : Prop :=
  ∀ (s : State) (i : Slot) (flagq ovfq : SlotSet),
    s.tu = .run flagq ovfq → slotGet flagq i = true → slotGet ovfq i = false →
    orderAllows s.params.tickOrder flagq i = true →
    s.ds = .scan i.castSucc → slotGet s.due i = true →
    ∃ v, Move.scan v ∈ enabled s ∧ Move.tickFlag i ∈ enabled s ∧
      (Move.tickFlag i ∈ enabled (scan v s) ∧
        slotGet (tickFlag i (scan v s)).due i = true ∧
        Move.tickOvf i ∉ enabled (tickFlag i (scan v s))) ∧
      (Move.scan v ∈ enabled (tickFlag i s) ∧
        slotGet (scan v (tickFlag i s)).due i = false ∧
        Move.tickOvf i ∈ enabled (scan v (tickFlag i s)) ∧
        slotGet (tickOvf i (scan v (tickFlag i s))).ovf i = inc s.params.ovfPolicy (slotGet s.ovf i))

/-- R115: while a pass is in progress, TICK (where none runs), REG, UNREG, RDOVF and RDDUE of a slot, and CBRET in
`D_AWAIT` are admitted: performed, such a command is not refused, and all but CBRET leave `DS` as it was. An agent that is
free (R162, `mayPresent`) and has one next has a step, which performs it so; and the steps of a TICK in progress are enabled
as outside a pass. -/
def Obligations.CommandsAreAdmittedDuringAPass : Prop :=
  ∀ s : State, s.ds ≠ .idle →
    (∀ m, m ∈ tickMoves s → m ∈ enabled s) ∧
    ∀ i : Instr, AdmittedInPass s i →
      (∃ t, exec i s = .next t ∧ t.refused = s.refused ∧ (i ≠ .cbret → t.ds = s.ds)) ∧
      ∀ (a : HostAgent) (w : Word) (rest : List Word),
        (getPort s.ports a).cmds = w :: rest → decode w = .ok i → mayPresent s a = true →
        Move.host a ∈ enabled s ∧
        (nextMove s = some (.host a) →
          ∃ t, step s = .next t ∧ t.refused = s.refused ∧ (i ≠ .cbret → t.ds = s.ds))
end

