-- ==== Sys2Proof/Laws/Decode.lean ====
section
/-! SUPPORT. The fields of a word built from fields, and the word built from its fields (R71). -/

namespace Sys2Proof

section
variable (op slot : BitVec 4) (p : BitVec 1) (h : Handler)

/-- The bits of a word built from fields, field by field from the top (R71). -/
theorem wordOf_getLsbD (i : Nat) : (wordOf op slot p h).getLsbD i =
    if i < 16 then h.getLsbD i
    else if i < 23 then false
    else if i < 24 then p.getLsbD (i - 23)
    else if i < 28 then slot.getLsbD (i - 24)
    else op.getLsbD (i - 28) := by
  simp only [wordOf, BitVec.getLsbD_append, Nat.sub_sub]
  rcases Nat.lt_or_ge i 16 with h1 | h1
  · simp [h1]
  rcases Nat.lt_or_ge i 23 with h2 | h2
  · simp [h2, show ¬ i < 16 by omega, show i - 16 < 7 by omega]
  rcases Nat.lt_or_ge i 24 with h3 | h3
  · simp [h3, show ¬ i < 16 by omega, show ¬ i < 23 by omega, show ¬ i - 16 < 7 by omega,
      show i - (16 + 7) < 1 by omega]
  rcases Nat.lt_or_ge i 28 with h4 | h4
  · simp [h4, show ¬ i < 16 by omega, show ¬ i < 23 by omega, show ¬ i < 24 by omega,
      show ¬ i - 16 < 7 by omega, show ¬ i - (16 + 7) < 1 by omega, show i - (16 + 7 + 1) < 4 by omega]
  · simp [show ¬ i < 16 by omega, show ¬ i < 23 by omega, show ¬ i < 24 by omega, show ¬ i < 28 by omega,
      show ¬ i - 16 < 7 by omega, show ¬ i - (16 + 7) < 1 by omega, show ¬ i - (16 + 7 + 1) < 4 by omega]

@[simp] theorem opField_wordOf : opField (wordOf op slot p h) = op := by
  apply BitVec.eq_of_getLsbD_eq
  intro i hi
  simp [opField, wordOf_getLsbD, hi, show ¬ 28 + i < 16 by omega, show ¬ 28 + i < 23 by omega,
    show ¬ 28 + i < 24 by omega]

@[simp] theorem slotField_wordOf : slotField (wordOf op slot p h) = slot := by
  apply BitVec.eq_of_getLsbD_eq
  intro i hi
  simp [slotField, wordOf_getLsbD, hi, show ¬ 24 + i < 16 by omega, show ¬ 24 + i < 23 by omega,
    show 24 + i < 28 by omega]

@[simp] theorem presentField_wordOf : presentField (wordOf op slot p h) = p := by
  apply BitVec.eq_of_getLsbD_eq
  intro i hi
  have : i = 0 := by omega
  subst this
  rw [presentField, BitVec.getLsbD_extractLsb', wordOf_getLsbD]
  simp

@[simp] theorem rsvField_wordOf : rsvField (wordOf op slot p h) = 0 := by
  apply BitVec.eq_of_getLsbD_eq
  intro i hi
  simp [rsvField, wordOf_getLsbD, show ¬ 16 + i < 16 by omega, show 16 + i < 23 by omega]

@[simp] theorem handlerField_wordOf : handlerField (wordOf op slot p h) = h := by
  apply BitVec.eq_of_getLsbD_eq
  intro i hi
  simp [handlerField, wordOf_getLsbD, hi]
end

/-- A word with `RSV` = 0 is the word of its fields. -/
theorem wordOf_fields {w : Word} (hr : rsvField w = 0) :
    wordOf (opField w) (slotField w) (presentField w) (handlerField w) = w := by
  apply BitVec.eq_of_getLsbD_eq
  intro i hi
  rw [wordOf_getLsbD]
  split
  · rename_i h
    simp [handlerField, h]
  split
  · rename_i h h'
    have hb : (rsvField w).getLsbD (i - 16) = false := by simp [hr]
    simp only [rsvField, BitVec.getLsbD_extractLsb', show i - 16 < 7 by omega, decide_true, Bool.true_and,
      show 16 + (i - 16) = i by omega] at hb
    exact hb.symm
  split
  · rename_i h h' h''
    have : i = 23 := by omega
    subst this
    simp [presentField]
  split
  · simp [slotField, show i - 24 < 4 by omega, show 24 + (i - 24) = i by omega]
  · simp [opField, show i - 28 < 4 by omega, show 28 + (i - 28) = i by omega]

/-! ### A word as its fields -/

/-- A word is its five fields, one after the other (R71). -/
theorem word_fields (w : Word) :
    (opField w ++ slotField w ++ presentField w ++ rsvField w ++ handlerField w : BitVec 32) = w := by
  apply BitVec.eq_of_getLsbD_eq
  intro i hi
  simp only [BitVec.getLsbD_append, opField, slotField, presentField, rsvField, handlerField,
    BitVec.getLsbD_extractLsb']
  by_cases h1 : i < 16
  · simp [h1]
  by_cases h2 : i < 23
  · simp [h1, show i - 16 < 7 by omega, show 16 + (i - 16) = i by omega]
  by_cases h3 : i < 24
  · simp [h1, show ¬ i - 16 < 7 by omega, show i - 16 - 7 < 1 by omega, show 23 + (i - 16 - 7) = i by omega]
  by_cases h4 : i < 28
  · simp [h1, show ¬ i - 16 < 7 by omega, show ¬ i - 16 - 7 < 1 by omega, show i - 16 - 7 - 1 < 4 by omega,
      show 24 + (i - 16 - 7 - 1) = i by omega]
  · simp [h1, show ¬ i - 16 < 7 by omega, show ¬ i - 16 - 7 < 1 by omega, show ¬ i - 16 - 7 - 1 < 4 by omega,
      show 28 + (i - 16 - 7 - 1 - 4) = i by omega, show i - 16 - 7 - 1 - 4 < 4 by omega]

/-- Two words are equal where their fields are. -/
theorem word_eq_iff (w v : Word) : w = v ↔ opField w = opField v ∧ slotField w = slotField v ∧
    presentField w = presentField v ∧ rsvField w = rsvField v ∧ handlerField w = handlerField v := by
  constructor
  · rintro rfl
    simp
  · rintro ⟨a, b, c, d, e⟩
    rw [← word_fields w, ← word_fields v, a, b, c, d, e]

/-- A word matches under a mask where each field does (R73). -/
theorem word_and_eq_iff (w m k : Word) : w &&& m = k ↔
    opField w &&& opField m = opField k ∧ slotField w &&& slotField m = slotField k ∧
    presentField w &&& presentField m = presentField k ∧ rsvField w &&& rsvField m = rsvField k ∧
    handlerField w &&& handlerField m = handlerField k := by
  have he : ∀ lo n, (w &&& m).extractLsb' lo n = w.extractLsb' lo n &&& m.extractLsb' lo n := by
    intro lo n
    ext i hi
    simp
  rw [word_eq_iff]
  simp [opField, slotField, presentField, rsvField, handlerField, he]

/-! ### The must-be-zero parts of the rows -/

section
variable (w : Word)

/-- A part of a word is zero exactly where its bits are. -/
theorem extractLsb'_eq_zero_iff (lo n : Nat) :
    w.extractLsb' lo n = 0 ↔ ∀ i, i < n → w.getLsbD (lo + i) = false := by
  constructor
  · intro h i hi
    have := congrArg (fun x => x.getLsbD i) h
    simpa [hi] using this
  · intro h
    apply BitVec.eq_of_getLsbD_eq
    intro i hi
    simp [hi, h i hi]

/-- Bits [n+k-1:0] are zero where bits [n-1:0] and the `k` bits above them are. -/
theorem low_zero_split (n k : Nat) :
    w.extractLsb' 0 (n + k) = 0 ↔ w.extractLsb' n k = 0 ∧ w.extractLsb' 0 n = 0 := by
  rw [extractLsb'_eq_zero_iff, extractLsb'_eq_zero_iff, extractLsb'_eq_zero_iff]
  constructor
  · intro h
    refine ⟨fun i hi => ?_, fun i hi => h i (by omega)⟩
    have := h (n + i) (by omega)
    simpa using this
  · rintro ⟨h1, h2⟩ i hi
    by_cases h : i < n
    · exact h2 i h
    · have := h1 (i - n) (by omega)
      rw [show n + (i - n) = 0 + i by omega] at this
      exact this

theorem low23_iff : w.extractLsb' 0 23 = 0 ↔ rsvField w = 0 ∧ handlerField w = 0 :=
  low_zero_split w 16 7

theorem low24_iff : w.extractLsb' 0 24 = 0 ↔ presentField w = 0 ∧ rsvField w = 0 ∧ handlerField w = 0 := by
  rw [← low23_iff]
  exact low_zero_split w 23 1

theorem low28_iff : w.extractLsb' 0 28 = 0 ↔
    slotField w = 0 ∧ presentField w = 0 ∧ rsvField w = 0 ∧ handlerField w = 0 := by
  rw [← low24_iff]
  exact low_zero_split w 24 4
end

/-- The decoder by fields: one line for each row of the opcode map (R73). -/
theorem decode_by_fields (w : Word) : decode w =
    if opField w = 1 then requireZero (w.extractLsb' 0 28 == 0) .tick
    else if opField w = 2 then requireZero (w.extractLsb' 0 28 == 0) .dispatch
    else if opField w = 3 then
      if presentField w == 1 then requireZero (rsvField w == 0) (.reg (slotField w).toNat (handlerField w))
      else requireZero (w.extractLsb' 0 23 == 0) (.unreg (slotField w).toNat)
    else if opField w = 4 then requireZero (w.extractLsb' 0 24 == 0) (.rdovf (slotField w).toNat)
    else if opField w = 5 then requireZero (w.extractLsb' 0 24 == 0) (.rddue (slotField w).toNat)
    else if opField w = 6 then requireZero (w.extractLsb' 0 28 == 0) .cbret
    else .error .reservedOpcode := by
  have all : ∀ x : BitVec 4, x = 0 ∨ x = 1 ∨ x = 2 ∨ x = 3 ∨ x = 4 ∨ x = 5 ∨ x = 6 ∨ x = 7 ∨ x = 8 ∨
      x = 9 ∨ x = 10 ∨ x = 11 ∨ x = 12 ∨ x = 13 ∨ x = 14 ∨ x = 15 := by decide
  unfold decode
  generalize opField w = op
  rcases all op with rfl | rfl | rfl | rfl | rfl | rfl | rfl | rfl | rfl | rfl | rfl | rfl | rfl | rfl |
    rfl | rfl <;> rfl

theorem requireZero_eq_ok {b : Bool} {i j : Instr} :
    requireZero b i = .ok j ↔ b = true ∧ i = j := by
  cases b <;> simp [requireZero]

theorem requireZero_eq_error {b : Bool} {i : Instr} {e : DecodeError} :
    requireZero b i = .error e ↔ b = false ∧ e = .reservedBits := by
  cases b <;> simp [requireZero, eq_comm]

end Sys2Proof
end

