-- ==== Sys2Proof/Laws/State.lean ====
section
/-! SUPPORT. What each write of one field does to each field of the state. -/

namespace Sys2Proof.Machine

@[simp] theorem setTick_params (s : State) (v : TickCount) : (s.setTick v).params = s.params := rfl
@[simp] theorem setTick_tick (s : State) (v : TickCount) : (s.setTick v).tick = v := rfl
@[simp] theorem setTick_due (s : State) (v : TickCount) : (s.setTick v).due = s.due := rfl
@[simp] theorem setTick_ovf (s : State) (v : TickCount) : (s.setTick v).ovf = s.ovf := rfl
@[simp] theorem setTick_cb (s : State) (v : TickCount) : (s.setTick v).cb = s.cb := rfl
@[simp] theorem setTick_tu (s : State) (v : TickCount) : (s.setTick v).tu = s.tu := rfl
@[simp] theorem setTick_ds (s : State) (v : TickCount) : (s.setTick v).ds = s.ds := rfl
@[simp] theorem setTick_cbsnap (s : State) (v : TickCount) : (s.setTick v).cbsnap = s.cbsnap := rfl
@[simp] theorem setTick_refused (s : State) (v : TickCount) : (s.setTick v).refused = s.refused := rfl
@[simp] theorem setTick_ports (s : State) (v : TickCount) : (s.setTick v).ports = s.ports := rfl
@[simp] theorem setTick_issuer (s : State) (v : TickCount) : (s.setTick v).issuer = s.issuer := rfl
@[simp] theorem setTick_tickBy (s : State) (v : TickCount) : (s.setTick v).tickBy = s.tickBy := rfl
@[simp] theorem setTick_passBy (s : State) (v : TickCount) : (s.setTick v).passBy = s.passBy := rfl
@[simp] theorem setTick_plan (s : State) (v : TickCount) : (s.setTick v).plan = s.plan := rfl
@[simp] theorem setTick_draws (s : State) (v : TickCount) : (s.setTick v).draws = s.draws := rfl

@[simp] theorem setDue_params (s : State) (v : PerSlot Bool) : (s.setDue v).params = s.params := rfl
@[simp] theorem setDue_tick (s : State) (v : PerSlot Bool) : (s.setDue v).tick = s.tick := rfl
@[simp] theorem setDue_due (s : State) (v : PerSlot Bool) : (s.setDue v).due = v := rfl
@[simp] theorem setDue_ovf (s : State) (v : PerSlot Bool) : (s.setDue v).ovf = s.ovf := rfl
@[simp] theorem setDue_cb (s : State) (v : PerSlot Bool) : (s.setDue v).cb = s.cb := rfl
@[simp] theorem setDue_tu (s : State) (v : PerSlot Bool) : (s.setDue v).tu = s.tu := rfl
@[simp] theorem setDue_ds (s : State) (v : PerSlot Bool) : (s.setDue v).ds = s.ds := rfl
@[simp] theorem setDue_cbsnap (s : State) (v : PerSlot Bool) : (s.setDue v).cbsnap = s.cbsnap := rfl
@[simp] theorem setDue_refused (s : State) (v : PerSlot Bool) : (s.setDue v).refused = s.refused := rfl
@[simp] theorem setDue_ports (s : State) (v : PerSlot Bool) : (s.setDue v).ports = s.ports := rfl
@[simp] theorem setDue_issuer (s : State) (v : PerSlot Bool) : (s.setDue v).issuer = s.issuer := rfl
@[simp] theorem setDue_tickBy (s : State) (v : PerSlot Bool) : (s.setDue v).tickBy = s.tickBy := rfl
@[simp] theorem setDue_passBy (s : State) (v : PerSlot Bool) : (s.setDue v).passBy = s.passBy := rfl
@[simp] theorem setDue_plan (s : State) (v : PerSlot Bool) : (s.setDue v).plan = s.plan := rfl
@[simp] theorem setDue_draws (s : State) (v : PerSlot Bool) : (s.setDue v).draws = s.draws := rfl

@[simp] theorem setOvf_params (s : State) (v : PerSlot Count) : (s.setOvf v).params = s.params := rfl
@[simp] theorem setOvf_tick (s : State) (v : PerSlot Count) : (s.setOvf v).tick = s.tick := rfl
@[simp] theorem setOvf_due (s : State) (v : PerSlot Count) : (s.setOvf v).due = s.due := rfl
@[simp] theorem setOvf_ovf (s : State) (v : PerSlot Count) : (s.setOvf v).ovf = v := rfl
@[simp] theorem setOvf_cb (s : State) (v : PerSlot Count) : (s.setOvf v).cb = s.cb := rfl
@[simp] theorem setOvf_tu (s : State) (v : PerSlot Count) : (s.setOvf v).tu = s.tu := rfl
@[simp] theorem setOvf_ds (s : State) (v : PerSlot Count) : (s.setOvf v).ds = s.ds := rfl
@[simp] theorem setOvf_cbsnap (s : State) (v : PerSlot Count) : (s.setOvf v).cbsnap = s.cbsnap := rfl
@[simp] theorem setOvf_refused (s : State) (v : PerSlot Count) : (s.setOvf v).refused = s.refused := rfl
@[simp] theorem setOvf_ports (s : State) (v : PerSlot Count) : (s.setOvf v).ports = s.ports := rfl
@[simp] theorem setOvf_issuer (s : State) (v : PerSlot Count) : (s.setOvf v).issuer = s.issuer := rfl
@[simp] theorem setOvf_tickBy (s : State) (v : PerSlot Count) : (s.setOvf v).tickBy = s.tickBy := rfl
@[simp] theorem setOvf_passBy (s : State) (v : PerSlot Count) : (s.setOvf v).passBy = s.passBy := rfl
@[simp] theorem setOvf_plan (s : State) (v : PerSlot Count) : (s.setOvf v).plan = s.plan := rfl
@[simp] theorem setOvf_draws (s : State) (v : PerSlot Count) : (s.setOvf v).draws = s.draws := rfl

@[simp] theorem setCb_params (s : State) (v : PerSlot Callback) : (s.setCb v).params = s.params := rfl
@[simp] theorem setCb_tick (s : State) (v : PerSlot Callback) : (s.setCb v).tick = s.tick := rfl
@[simp] theorem setCb_due (s : State) (v : PerSlot Callback) : (s.setCb v).due = s.due := rfl
@[simp] theorem setCb_ovf (s : State) (v : PerSlot Callback) : (s.setCb v).ovf = s.ovf := rfl
@[simp] theorem setCb_cb (s : State) (v : PerSlot Callback) : (s.setCb v).cb = v := rfl
@[simp] theorem setCb_tu (s : State) (v : PerSlot Callback) : (s.setCb v).tu = s.tu := rfl
@[simp] theorem setCb_ds (s : State) (v : PerSlot Callback) : (s.setCb v).ds = s.ds := rfl
@[simp] theorem setCb_cbsnap (s : State) (v : PerSlot Callback) : (s.setCb v).cbsnap = s.cbsnap := rfl
@[simp] theorem setCb_refused (s : State) (v : PerSlot Callback) : (s.setCb v).refused = s.refused := rfl
@[simp] theorem setCb_ports (s : State) (v : PerSlot Callback) : (s.setCb v).ports = s.ports := rfl
@[simp] theorem setCb_issuer (s : State) (v : PerSlot Callback) : (s.setCb v).issuer = s.issuer := rfl
@[simp] theorem setCb_tickBy (s : State) (v : PerSlot Callback) : (s.setCb v).tickBy = s.tickBy := rfl
@[simp] theorem setCb_passBy (s : State) (v : PerSlot Callback) : (s.setCb v).passBy = s.passBy := rfl
@[simp] theorem setCb_plan (s : State) (v : PerSlot Callback) : (s.setCb v).plan = s.plan := rfl
@[simp] theorem setCb_draws (s : State) (v : PerSlot Callback) : (s.setCb v).draws = s.draws := rfl

@[simp] theorem setTu_params (s : State) (v : TickUnit) : (s.setTu v).params = s.params := rfl
@[simp] theorem setTu_tick (s : State) (v : TickUnit) : (s.setTu v).tick = s.tick := rfl
@[simp] theorem setTu_due (s : State) (v : TickUnit) : (s.setTu v).due = s.due := rfl
@[simp] theorem setTu_ovf (s : State) (v : TickUnit) : (s.setTu v).ovf = s.ovf := rfl
@[simp] theorem setTu_cb (s : State) (v : TickUnit) : (s.setTu v).cb = s.cb := rfl
@[simp] theorem setTu_tu (s : State) (v : TickUnit) : (s.setTu v).tu = v := rfl
@[simp] theorem setTu_ds (s : State) (v : TickUnit) : (s.setTu v).ds = s.ds := rfl
@[simp] theorem setTu_cbsnap (s : State) (v : TickUnit) : (s.setTu v).cbsnap = s.cbsnap := rfl
@[simp] theorem setTu_refused (s : State) (v : TickUnit) : (s.setTu v).refused = s.refused := rfl
@[simp] theorem setTu_ports (s : State) (v : TickUnit) : (s.setTu v).ports = s.ports := rfl
@[simp] theorem setTu_issuer (s : State) (v : TickUnit) : (s.setTu v).issuer = s.issuer := rfl
@[simp] theorem setTu_tickBy (s : State) (v : TickUnit) : (s.setTu v).tickBy = s.tickBy := rfl
@[simp] theorem setTu_passBy (s : State) (v : TickUnit) : (s.setTu v).passBy = s.passBy := rfl
@[simp] theorem setTu_plan (s : State) (v : TickUnit) : (s.setTu v).plan = s.plan := rfl
@[simp] theorem setTu_draws (s : State) (v : TickUnit) : (s.setTu v).draws = s.draws := rfl

@[simp] theorem setDs_params (s : State) (v : Sequencer) : (s.setDs v).params = s.params := rfl
@[simp] theorem setDs_tick (s : State) (v : Sequencer) : (s.setDs v).tick = s.tick := rfl
@[simp] theorem setDs_due (s : State) (v : Sequencer) : (s.setDs v).due = s.due := rfl
@[simp] theorem setDs_ovf (s : State) (v : Sequencer) : (s.setDs v).ovf = s.ovf := rfl
@[simp] theorem setDs_cb (s : State) (v : Sequencer) : (s.setDs v).cb = s.cb := rfl
@[simp] theorem setDs_tu (s : State) (v : Sequencer) : (s.setDs v).tu = s.tu := rfl
@[simp] theorem setDs_ds (s : State) (v : Sequencer) : (s.setDs v).ds = v := rfl
@[simp] theorem setDs_cbsnap (s : State) (v : Sequencer) : (s.setDs v).cbsnap = s.cbsnap := rfl
@[simp] theorem setDs_refused (s : State) (v : Sequencer) : (s.setDs v).refused = s.refused := rfl
@[simp] theorem setDs_ports (s : State) (v : Sequencer) : (s.setDs v).ports = s.ports := rfl
@[simp] theorem setDs_issuer (s : State) (v : Sequencer) : (s.setDs v).issuer = s.issuer := rfl
@[simp] theorem setDs_tickBy (s : State) (v : Sequencer) : (s.setDs v).tickBy = s.tickBy := rfl
@[simp] theorem setDs_passBy (s : State) (v : Sequencer) : (s.setDs v).passBy = s.passBy := rfl
@[simp] theorem setDs_plan (s : State) (v : Sequencer) : (s.setDs v).plan = s.plan := rfl
@[simp] theorem setDs_draws (s : State) (v : Sequencer) : (s.setDs v).draws = s.draws := rfl

@[simp] theorem setCbsnap_params (s : State) (v : PerSlot Callback) : (s.setCbsnap v).params = s.params := rfl
@[simp] theorem setCbsnap_tick (s : State) (v : PerSlot Callback) : (s.setCbsnap v).tick = s.tick := rfl
@[simp] theorem setCbsnap_due (s : State) (v : PerSlot Callback) : (s.setCbsnap v).due = s.due := rfl
@[simp] theorem setCbsnap_ovf (s : State) (v : PerSlot Callback) : (s.setCbsnap v).ovf = s.ovf := rfl
@[simp] theorem setCbsnap_cb (s : State) (v : PerSlot Callback) : (s.setCbsnap v).cb = s.cb := rfl
@[simp] theorem setCbsnap_tu (s : State) (v : PerSlot Callback) : (s.setCbsnap v).tu = s.tu := rfl
@[simp] theorem setCbsnap_ds (s : State) (v : PerSlot Callback) : (s.setCbsnap v).ds = s.ds := rfl
@[simp] theorem setCbsnap_cbsnap (s : State) (v : PerSlot Callback) : (s.setCbsnap v).cbsnap = v := rfl
@[simp] theorem setCbsnap_refused (s : State) (v : PerSlot Callback) : (s.setCbsnap v).refused = s.refused := rfl
@[simp] theorem setCbsnap_ports (s : State) (v : PerSlot Callback) : (s.setCbsnap v).ports = s.ports := rfl
@[simp] theorem setCbsnap_issuer (s : State) (v : PerSlot Callback) : (s.setCbsnap v).issuer = s.issuer := rfl
@[simp] theorem setCbsnap_tickBy (s : State) (v : PerSlot Callback) : (s.setCbsnap v).tickBy = s.tickBy := rfl
@[simp] theorem setCbsnap_passBy (s : State) (v : PerSlot Callback) : (s.setCbsnap v).passBy = s.passBy := rfl
@[simp] theorem setCbsnap_plan (s : State) (v : PerSlot Callback) : (s.setCbsnap v).plan = s.plan := rfl
@[simp] theorem setCbsnap_draws (s : State) (v : PerSlot Callback) : (s.setCbsnap v).draws = s.draws := rfl

@[simp] theorem setRefused_params (s : State) (v : Bool) : (s.setRefused v).params = s.params := rfl
@[simp] theorem setRefused_tick (s : State) (v : Bool) : (s.setRefused v).tick = s.tick := rfl
@[simp] theorem setRefused_due (s : State) (v : Bool) : (s.setRefused v).due = s.due := rfl
@[simp] theorem setRefused_ovf (s : State) (v : Bool) : (s.setRefused v).ovf = s.ovf := rfl
@[simp] theorem setRefused_cb (s : State) (v : Bool) : (s.setRefused v).cb = s.cb := rfl
@[simp] theorem setRefused_tu (s : State) (v : Bool) : (s.setRefused v).tu = s.tu := rfl
@[simp] theorem setRefused_ds (s : State) (v : Bool) : (s.setRefused v).ds = s.ds := rfl
@[simp] theorem setRefused_cbsnap (s : State) (v : Bool) : (s.setRefused v).cbsnap = s.cbsnap := rfl
@[simp] theorem setRefused_refused (s : State) (v : Bool) : (s.setRefused v).refused = v := rfl
@[simp] theorem setRefused_ports (s : State) (v : Bool) : (s.setRefused v).ports = s.ports := rfl
@[simp] theorem setRefused_issuer (s : State) (v : Bool) : (s.setRefused v).issuer = s.issuer := rfl
@[simp] theorem setRefused_tickBy (s : State) (v : Bool) : (s.setRefused v).tickBy = s.tickBy := rfl
@[simp] theorem setRefused_passBy (s : State) (v : Bool) : (s.setRefused v).passBy = s.passBy := rfl
@[simp] theorem setRefused_plan (s : State) (v : Bool) : (s.setRefused v).plan = s.plan := rfl
@[simp] theorem setRefused_draws (s : State) (v : Bool) : (s.setRefused v).draws = s.draws := rfl

@[simp] theorem setPorts_params (s : State) (v : Ports) : (s.setPorts v).params = s.params := rfl
@[simp] theorem setPorts_tick (s : State) (v : Ports) : (s.setPorts v).tick = s.tick := rfl
@[simp] theorem setPorts_due (s : State) (v : Ports) : (s.setPorts v).due = s.due := rfl
@[simp] theorem setPorts_ovf (s : State) (v : Ports) : (s.setPorts v).ovf = s.ovf := rfl
@[simp] theorem setPorts_cb (s : State) (v : Ports) : (s.setPorts v).cb = s.cb := rfl
@[simp] theorem setPorts_tu (s : State) (v : Ports) : (s.setPorts v).tu = s.tu := rfl
@[simp] theorem setPorts_ds (s : State) (v : Ports) : (s.setPorts v).ds = s.ds := rfl
@[simp] theorem setPorts_cbsnap (s : State) (v : Ports) : (s.setPorts v).cbsnap = s.cbsnap := rfl
@[simp] theorem setPorts_refused (s : State) (v : Ports) : (s.setPorts v).refused = s.refused := rfl
@[simp] theorem setPorts_ports (s : State) (v : Ports) : (s.setPorts v).ports = v := rfl
@[simp] theorem setPorts_issuer (s : State) (v : Ports) : (s.setPorts v).issuer = s.issuer := rfl
@[simp] theorem setPorts_tickBy (s : State) (v : Ports) : (s.setPorts v).tickBy = s.tickBy := rfl
@[simp] theorem setPorts_passBy (s : State) (v : Ports) : (s.setPorts v).passBy = s.passBy := rfl
@[simp] theorem setPorts_plan (s : State) (v : Ports) : (s.setPorts v).plan = s.plan := rfl
@[simp] theorem setPorts_draws (s : State) (v : Ports) : (s.setPorts v).draws = s.draws := rfl

@[simp] theorem setIssuer_params (s : State) (v : HostAgent) : (s.setIssuer v).params = s.params := rfl
@[simp] theorem setIssuer_tick (s : State) (v : HostAgent) : (s.setIssuer v).tick = s.tick := rfl
@[simp] theorem setIssuer_due (s : State) (v : HostAgent) : (s.setIssuer v).due = s.due := rfl
@[simp] theorem setIssuer_ovf (s : State) (v : HostAgent) : (s.setIssuer v).ovf = s.ovf := rfl
@[simp] theorem setIssuer_cb (s : State) (v : HostAgent) : (s.setIssuer v).cb = s.cb := rfl
@[simp] theorem setIssuer_tu (s : State) (v : HostAgent) : (s.setIssuer v).tu = s.tu := rfl
@[simp] theorem setIssuer_ds (s : State) (v : HostAgent) : (s.setIssuer v).ds = s.ds := rfl
@[simp] theorem setIssuer_cbsnap (s : State) (v : HostAgent) : (s.setIssuer v).cbsnap = s.cbsnap := rfl
@[simp] theorem setIssuer_refused (s : State) (v : HostAgent) : (s.setIssuer v).refused = s.refused := rfl
@[simp] theorem setIssuer_ports (s : State) (v : HostAgent) : (s.setIssuer v).ports = s.ports := rfl
@[simp] theorem setIssuer_issuer (s : State) (v : HostAgent) : (s.setIssuer v).issuer = v := rfl
@[simp] theorem setIssuer_tickBy (s : State) (v : HostAgent) : (s.setIssuer v).tickBy = s.tickBy := rfl
@[simp] theorem setIssuer_passBy (s : State) (v : HostAgent) : (s.setIssuer v).passBy = s.passBy := rfl
@[simp] theorem setIssuer_plan (s : State) (v : HostAgent) : (s.setIssuer v).plan = s.plan := rfl
@[simp] theorem setIssuer_draws (s : State) (v : HostAgent) : (s.setIssuer v).draws = s.draws := rfl

@[simp] theorem setTickBy_params (s : State) (v : HostAgent) : (s.setTickBy v).params = s.params := rfl
@[simp] theorem setTickBy_tick (s : State) (v : HostAgent) : (s.setTickBy v).tick = s.tick := rfl
@[simp] theorem setTickBy_due (s : State) (v : HostAgent) : (s.setTickBy v).due = s.due := rfl
@[simp] theorem setTickBy_ovf (s : State) (v : HostAgent) : (s.setTickBy v).ovf = s.ovf := rfl
@[simp] theorem setTickBy_cb (s : State) (v : HostAgent) : (s.setTickBy v).cb = s.cb := rfl
@[simp] theorem setTickBy_tu (s : State) (v : HostAgent) : (s.setTickBy v).tu = s.tu := rfl
@[simp] theorem setTickBy_ds (s : State) (v : HostAgent) : (s.setTickBy v).ds = s.ds := rfl
@[simp] theorem setTickBy_cbsnap (s : State) (v : HostAgent) : (s.setTickBy v).cbsnap = s.cbsnap := rfl
@[simp] theorem setTickBy_refused (s : State) (v : HostAgent) : (s.setTickBy v).refused = s.refused := rfl
@[simp] theorem setTickBy_ports (s : State) (v : HostAgent) : (s.setTickBy v).ports = s.ports := rfl
@[simp] theorem setTickBy_issuer (s : State) (v : HostAgent) : (s.setTickBy v).issuer = s.issuer := rfl
@[simp] theorem setTickBy_tickBy (s : State) (v : HostAgent) : (s.setTickBy v).tickBy = v := rfl
@[simp] theorem setTickBy_passBy (s : State) (v : HostAgent) : (s.setTickBy v).passBy = s.passBy := rfl
@[simp] theorem setTickBy_plan (s : State) (v : HostAgent) : (s.setTickBy v).plan = s.plan := rfl
@[simp] theorem setTickBy_draws (s : State) (v : HostAgent) : (s.setTickBy v).draws = s.draws := rfl

@[simp] theorem setPassBy_params (s : State) (v : HostAgent) : (s.setPassBy v).params = s.params := rfl
@[simp] theorem setPassBy_tick (s : State) (v : HostAgent) : (s.setPassBy v).tick = s.tick := rfl
@[simp] theorem setPassBy_due (s : State) (v : HostAgent) : (s.setPassBy v).due = s.due := rfl
@[simp] theorem setPassBy_ovf (s : State) (v : HostAgent) : (s.setPassBy v).ovf = s.ovf := rfl
@[simp] theorem setPassBy_cb (s : State) (v : HostAgent) : (s.setPassBy v).cb = s.cb := rfl
@[simp] theorem setPassBy_tu (s : State) (v : HostAgent) : (s.setPassBy v).tu = s.tu := rfl
@[simp] theorem setPassBy_ds (s : State) (v : HostAgent) : (s.setPassBy v).ds = s.ds := rfl
@[simp] theorem setPassBy_cbsnap (s : State) (v : HostAgent) : (s.setPassBy v).cbsnap = s.cbsnap := rfl
@[simp] theorem setPassBy_refused (s : State) (v : HostAgent) : (s.setPassBy v).refused = s.refused := rfl
@[simp] theorem setPassBy_ports (s : State) (v : HostAgent) : (s.setPassBy v).ports = s.ports := rfl
@[simp] theorem setPassBy_issuer (s : State) (v : HostAgent) : (s.setPassBy v).issuer = s.issuer := rfl
@[simp] theorem setPassBy_tickBy (s : State) (v : HostAgent) : (s.setPassBy v).tickBy = s.tickBy := rfl
@[simp] theorem setPassBy_passBy (s : State) (v : HostAgent) : (s.setPassBy v).passBy = v := rfl
@[simp] theorem setPassBy_plan (s : State) (v : HostAgent) : (s.setPassBy v).plan = s.plan := rfl
@[simp] theorem setPassBy_draws (s : State) (v : HostAgent) : (s.setPassBy v).draws = s.draws := rfl

@[simp] theorem setPlan_params (s : State) (v : List Move) : (s.setPlan v).params = s.params := rfl
@[simp] theorem setPlan_tick (s : State) (v : List Move) : (s.setPlan v).tick = s.tick := rfl
@[simp] theorem setPlan_due (s : State) (v : List Move) : (s.setPlan v).due = s.due := rfl
@[simp] theorem setPlan_ovf (s : State) (v : List Move) : (s.setPlan v).ovf = s.ovf := rfl
@[simp] theorem setPlan_cb (s : State) (v : List Move) : (s.setPlan v).cb = s.cb := rfl
@[simp] theorem setPlan_tu (s : State) (v : List Move) : (s.setPlan v).tu = s.tu := rfl
@[simp] theorem setPlan_ds (s : State) (v : List Move) : (s.setPlan v).ds = s.ds := rfl
@[simp] theorem setPlan_cbsnap (s : State) (v : List Move) : (s.setPlan v).cbsnap = s.cbsnap := rfl
@[simp] theorem setPlan_refused (s : State) (v : List Move) : (s.setPlan v).refused = s.refused := rfl
@[simp] theorem setPlan_ports (s : State) (v : List Move) : (s.setPlan v).ports = s.ports := rfl
@[simp] theorem setPlan_issuer (s : State) (v : List Move) : (s.setPlan v).issuer = s.issuer := rfl
@[simp] theorem setPlan_tickBy (s : State) (v : List Move) : (s.setPlan v).tickBy = s.tickBy := rfl
@[simp] theorem setPlan_passBy (s : State) (v : List Move) : (s.setPlan v).passBy = s.passBy := rfl
@[simp] theorem setPlan_plan (s : State) (v : List Move) : (s.setPlan v).plan = v := rfl
@[simp] theorem setPlan_draws (s : State) (v : List Move) : (s.setPlan v).draws = s.draws := rfl

@[simp] theorem setDraws_params (s : State) (v : Nat) : (s.setDraws v).params = s.params := rfl
@[simp] theorem setDraws_tick (s : State) (v : Nat) : (s.setDraws v).tick = s.tick := rfl
@[simp] theorem setDraws_due (s : State) (v : Nat) : (s.setDraws v).due = s.due := rfl
@[simp] theorem setDraws_ovf (s : State) (v : Nat) : (s.setDraws v).ovf = s.ovf := rfl
@[simp] theorem setDraws_cb (s : State) (v : Nat) : (s.setDraws v).cb = s.cb := rfl
@[simp] theorem setDraws_tu (s : State) (v : Nat) : (s.setDraws v).tu = s.tu := rfl
@[simp] theorem setDraws_ds (s : State) (v : Nat) : (s.setDraws v).ds = s.ds := rfl
@[simp] theorem setDraws_cbsnap (s : State) (v : Nat) : (s.setDraws v).cbsnap = s.cbsnap := rfl
@[simp] theorem setDraws_refused (s : State) (v : Nat) : (s.setDraws v).refused = s.refused := rfl
@[simp] theorem setDraws_ports (s : State) (v : Nat) : (s.setDraws v).ports = s.ports := rfl
@[simp] theorem setDraws_issuer (s : State) (v : Nat) : (s.setDraws v).issuer = s.issuer := rfl
@[simp] theorem setDraws_tickBy (s : State) (v : Nat) : (s.setDraws v).tickBy = s.tickBy := rfl
@[simp] theorem setDraws_passBy (s : State) (v : Nat) : (s.setDraws v).passBy = s.passBy := rfl
@[simp] theorem setDraws_plan (s : State) (v : Nat) : (s.setDraws v).plan = s.plan := rfl
@[simp] theorem setDraws_draws (s : State) (v : Nat) : (s.setDraws v).draws = v := rfl

end Sys2Proof.Machine
end

