-- ==== Sys2Proof/Laws/Ops.lean ====
section
/-! SUPPORT. What the shared operations do: per-slot arrays, sets of slots, ports, and the taking, ending and refusing of
a command. -/

namespace Sys2Proof.Machine

/-! ### The per-slot arrays -/

theorem slotGet_slotSet {α : Type} (v : PerSlot α) (i j : Slot) (x : α) :
    slotGet (slotSet v i x) j = if i = j then x else slotGet v j := by
  simp [slotGet, slotSet, Vector.getElem_set, Fin.ext_iff]

@[simp] theorem slotGet_slotSet_self {α : Type} (v : PerSlot α) (i : Slot) (x : α) :
    slotGet (slotSet v i x) i = x := by
  simp [slotGet_slotSet]

theorem slotGet_slotSet_other {α : Type} (v : PerSlot α) {i j : Slot} (x : α) (h : i ≠ j) :
    slotGet (slotSet v i x) j = slotGet v j := by
  simp [slotGet_slotSet, h]

@[simp] theorem slotGet_slotTab {α : Type} (f : Slot → α) (i : Slot) : slotGet (slotTab f) i = f i := by
  fin_cases i <;> rfl

@[simp] theorem slotGet_replicate {α : Type} (x : α) (i : Slot) :
    slotGet (Vector.replicate 8 x) i = x := by
  simp [slotGet]

/-- Two arrays are equal where their entries are. -/
theorem perSlot_ext {α : Type} {v w : PerSlot α} (h : ∀ i, slotGet v i = slotGet w i) : v = w := by
  ext i hi
  exact h ⟨i, hi⟩

/-! ### Sets of slots -/

@[simp] theorem mem_slots (i : Slot) : i ∈ slots := by
  fin_cases i <;> decide

@[simp] theorem slotGet_noSlots (i : Slot) : slotGet noSlots i = false := by
  simp [noSlots]

theorem isEmptySet_iff (q : SlotSet) : isEmptySet q = true ↔ ∀ i, slotGet q i = false := by
  simp [isEmptySet, List.all_eq_true]

/-- `leastSlot` is the minimum of R93. -/
theorem leastSlot_eq_some_iff (q : SlotSet) (i : Slot) :
    leastSlot q = some i ↔ slotGet q i = true ∧ ∀ j, j < i → slotGet q j = false := by
  have hs : slots = List.finRange 8 := by decide
  rw [leastSlot, hs, List.find?_eq_some_iff_getElem]
  constructor
  · rintro ⟨hi, n, hn, rfl, hlt⟩
    refine ⟨hi, fun j hj => ?_⟩
    have := hlt j.val (by simpa [Fin.lt_def] using hj)
    simpa using this
  · rintro ⟨hi, hlt⟩
    refine ⟨hi, i.val, by simp, by simp, fun j hj => ?_⟩
    simpa using hlt ⟨j, by omega⟩ (by simpa [Fin.lt_def] using hj)

/-- A set that is not empty has a least slot. -/
theorem exists_leastSlot {q : SlotSet} (h : isEmptySet q = false) : ∃ i, leastSlot q = some i := by
  rw [← Option.isSome_iff_exists, leastSlot, List.find?_isSome]
  by_contra hc
  have : isEmptySet q = true := by
    rw [isEmptySet_iff]
    intro i
    by_contra hi
    exact hc ⟨i, mem_slots i, by simpa using hi⟩
  simp [this] at h

/-! ### The ports -/

theorem getPort_setPort (p : Ports) (a b : HostAgent) (q : Port) :
    getPort (setPort p a q) b = if a = b then q else getPort p b := by
  cases a <;> cases b <;> simp [getPort, setPort]

@[simp] theorem getPort_setPort_self (p : Ports) (a : HostAgent) (q : Port) :
    getPort (setPort p a q) a = q := by
  simp [getPort_setPort]

theorem getPort_setPort_other (p : Ports) {a b : HostAgent} (q : Port) (h : a ≠ b) :
    getPort (setPort p a q) b = getPort p b := by
  simp [getPort_setPort, h]

/-! ### Taking a command, ending it, refusing it: only the port (and the mark) is written -/

@[simp] theorem retire_params (r : Reply) (s : State) : (retire r s).params = s.params := rfl
@[simp] theorem retire_tick (r : Reply) (s : State) : (retire r s).tick = s.tick := rfl
@[simp] theorem retire_due (r : Reply) (s : State) : (retire r s).due = s.due := rfl
@[simp] theorem retire_ovf (r : Reply) (s : State) : (retire r s).ovf = s.ovf := rfl
@[simp] theorem retire_cb (r : Reply) (s : State) : (retire r s).cb = s.cb := rfl
@[simp] theorem retire_tu (r : Reply) (s : State) : (retire r s).tu = s.tu := rfl
@[simp] theorem retire_ds (r : Reply) (s : State) : (retire r s).ds = s.ds := rfl
@[simp] theorem retire_cbsnap (r : Reply) (s : State) : (retire r s).cbsnap = s.cbsnap := rfl
@[simp] theorem retire_refused (r : Reply) (s : State) : (retire r s).refused = s.refused := rfl
@[simp] theorem retire_issuer (r : Reply) (s : State) : (retire r s).issuer = s.issuer := rfl
@[simp] theorem retire_tickBy (r : Reply) (s : State) : (retire r s).tickBy = s.tickBy := rfl
@[simp] theorem retire_passBy (r : Reply) (s : State) : (retire r s).passBy = s.passBy := rfl
@[simp] theorem retire_plan (r : Reply) (s : State) : (retire r s).plan = s.plan := rfl
@[simp] theorem retire_draws (r : Reply) (s : State) : (retire r s).draws = s.draws := rfl

@[simp] theorem deliver_params (r : Reply) (a : HostAgent) (s : State) : (deliver r a s).params = s.params := rfl
@[simp] theorem deliver_tick (r : Reply) (a : HostAgent) (s : State) : (deliver r a s).tick = s.tick := rfl
@[simp] theorem deliver_due (r : Reply) (a : HostAgent) (s : State) : (deliver r a s).due = s.due := rfl
@[simp] theorem deliver_ovf (r : Reply) (a : HostAgent) (s : State) : (deliver r a s).ovf = s.ovf := rfl
@[simp] theorem deliver_cb (r : Reply) (a : HostAgent) (s : State) : (deliver r a s).cb = s.cb := rfl
@[simp] theorem deliver_tu (r : Reply) (a : HostAgent) (s : State) : (deliver r a s).tu = s.tu := rfl
@[simp] theorem deliver_ds (r : Reply) (a : HostAgent) (s : State) : (deliver r a s).ds = s.ds := rfl
@[simp] theorem deliver_cbsnap (r : Reply) (a : HostAgent) (s : State) : (deliver r a s).cbsnap = s.cbsnap := rfl
@[simp] theorem deliver_refused (r : Reply) (a : HostAgent) (s : State) : (deliver r a s).refused = s.refused := rfl
@[simp] theorem deliver_issuer (r : Reply) (a : HostAgent) (s : State) : (deliver r a s).issuer = s.issuer := rfl
@[simp] theorem deliver_tickBy (r : Reply) (a : HostAgent) (s : State) : (deliver r a s).tickBy = s.tickBy := rfl
@[simp] theorem deliver_passBy (r : Reply) (a : HostAgent) (s : State) : (deliver r a s).passBy = s.passBy := rfl
@[simp] theorem deliver_plan (r : Reply) (a : HostAgent) (s : State) : (deliver r a s).plan = s.plan := rfl
@[simp] theorem deliver_draws (r : Reply) (a : HostAgent) (s : State) : (deliver r a s).draws = s.draws := rfl

@[simp] theorem refuse_params (why : RefuseReason) (s : State) : (refuse why s).params = s.params := rfl
@[simp] theorem refuse_tick (why : RefuseReason) (s : State) : (refuse why s).tick = s.tick := rfl
@[simp] theorem refuse_due (why : RefuseReason) (s : State) : (refuse why s).due = s.due := rfl
@[simp] theorem refuse_ovf (why : RefuseReason) (s : State) : (refuse why s).ovf = s.ovf := rfl
@[simp] theorem refuse_cb (why : RefuseReason) (s : State) : (refuse why s).cb = s.cb := rfl
@[simp] theorem refuse_tu (why : RefuseReason) (s : State) : (refuse why s).tu = s.tu := rfl
@[simp] theorem refuse_ds (why : RefuseReason) (s : State) : (refuse why s).ds = s.ds := rfl
@[simp] theorem refuse_cbsnap (why : RefuseReason) (s : State) : (refuse why s).cbsnap = s.cbsnap := rfl
@[simp] theorem refuse_refused (why : RefuseReason) (s : State) : (refuse why s).refused = true := rfl
@[simp] theorem refuse_issuer (why : RefuseReason) (s : State) : (refuse why s).issuer = s.issuer := rfl
@[simp] theorem refuse_tickBy (why : RefuseReason) (s : State) : (refuse why s).tickBy = s.tickBy := rfl
@[simp] theorem refuse_passBy (why : RefuseReason) (s : State) : (refuse why s).passBy = s.passBy := rfl
@[simp] theorem refuse_plan (why : RefuseReason) (s : State) : (refuse why s).plan = s.plan := rfl
@[simp] theorem refuse_draws (why : RefuseReason) (s : State) : (refuse why s).draws = s.draws := rfl

/-- The command is gone from its agent's port, and the reply is there. -/
@[simp] theorem retire_port (r : Reply) (s : State) :
    getPort (retire r s).ports s.issuer = ⟨(getPort s.ports s.issuer).cmds.tail, r⟩ := by
  simp [retire]

theorem retire_port_other (r : Reply) (s : State) {a : HostAgent} (h : s.issuer ≠ a) :
    getPort (retire r s).ports a = getPort s.ports a := by
  simp [retire, getPort_setPort_other _ _ h]

@[simp] theorem deliver_port (r : Reply) (a : HostAgent) (s : State) :
    getPort (deliver r a s).ports a = ⟨(getPort s.ports a).cmds, r⟩ := by
  simp [deliver]

theorem deliver_port_other (r : Reply) (s : State) {a b : HostAgent} (h : a ≠ b) :
    getPort (deliver r a s).ports b = getPort s.ports b := by
  simp [deliver, getPort_setPort_other _ _ h]

@[simp] theorem refuse_port (why : RefuseReason) (s : State) :
    getPort (refuse why s).ports s.issuer = ⟨(getPort s.ports s.issuer).cmds.tail, .refused why⟩ :=
  retire_port _ s

theorem refuse_port_other (why : RefuseReason) (s : State) {a : HostAgent} (h : s.issuer ≠ a) :
    getPort (refuse why s).ports a = getPort s.ports a :=
  retire_port_other _ s h

/-! ### The flag swap and the counter -/

@[simp] theorem swapDue_fst (i : Slot) (b : Bool) (s : State) : (swapDue i b s).1 = slotGet s.due i := rfl

@[simp] theorem swapDue_snd (i : Slot) (b : Bool) (s : State) :
    (swapDue i b s).2 = s.setDue (slotSet s.due i b) := rfl

end Sys2Proof.Machine
end

