-- ==== Sys2Proof/Laws/Units.lean ====
section
/-! SUPPORT. What the steps of the tick unit and of the sequencer and the registration commands do, each unfolded once. -/

namespace Sys2Proof.Machine

/-! ### Operands -/

theorem slotOf_of_lt {id : Nat} (h : id < 8) : slotOf id = some ⟨id, h⟩ := by
  simp [slotOf, h]

theorem slotOf_of_ge {id : Nat} (h : 8 ≤ id) : slotOf id = none := by
  simp [slotOf, Nat.not_lt.mpr h]

@[simp] theorem slotOf_val (i : Slot) : slotOf i.val = some i := by
  simp [slotOf]

@[simp] theorem cursorSlot_castSucc (c : Slot) : cursorSlot c.castSucc = some c := by
  simp [cursorSlot, slotOf]

theorem cursorSlot_eq_some_iff {cur : Fin 9} {c : Slot} : cursorSlot cur = some c ↔ cur = c.castSucc := by
  by_cases h : cur.val < 8
  · simp [cursorSlot, slotOf, h, Fin.ext_iff, eq_comm]
  · have hc : cur.val ≠ c.val := by omega
    simp [cursorSlot, slotOf, h, Fin.ext_iff, hc]

theorem cursorSlot_eq_none_iff {cur : Fin 9} : cursorSlot cur = none ↔ cur = 8 := by
  by_cases h : cur.val < 8
  · simp [cursorSlot, slotOf, h, Fin.ext_iff]
    omega
  · simp [cursorSlot, slotOf, h, Fin.ext_iff]
    omega

/-! ### The tick unit -/

theorem tps_pos (p : Params) : 0 < tps p := by simp [tps]

/-- `TPS` fits the counter with room for the transient value (R8, R91). -/
theorem tps_le (p : Params) : tps p ≤ 1000 := by
  simp only [tps]
  omega

theorem interval_pos (p : Params) (i : Slot) : 0 < interval p i := by
  simp only [interval, tps]
  generalize p.tpsUnits = u
  revert u i
  decide

/-- Every interval divides `TPS` (R8). -/
theorem interval_dvd_tps (p : Params) (i : Slot) : interval p i ∣ tps p := by
  simp only [interval, tps]
  generalize p.tpsUnits = u
  revert u i
  decide

theorem lane_iff (p : Params) (t : TickCount) (i : Slot) :
    lane p t i = true ↔ t.toNat % interval p i = 0 := by
  simp [lane]

@[simp] theorem slotGet_hits (p : Params) (t : TickCount) (i : Slot) :
    slotGet (hits p t) i = lane p t i := by
  simp [hits]

@[simp] theorem slotGet_dueAfter (s : State) (t : TickCount) (i : Slot) :
    slotGet (dueAfter s t) i = (lane s.params t i || slotGet s.due i) := by
  simp [dueAfter]

@[simp] theorem slotGet_ovfAfter (s : State) (t : TickCount) (i : Slot) :
    slotGet (ovfAfter s t) i =
      if lane s.params t i && slotGet s.due i then inc s.params.ovfPolicy (slotGet s.ovf i)
      else slotGet s.ovf i := by
  simp [ovfAfter]

/-- TICK_FLAG(i) in a TICK (R93). -/
theorem tickFlag_run (i : Slot) {s : State} {flagq ovfq : SlotSet} (h : s.tu = .run flagq ovfq) :
    tickFlag i s = (s.setDue (slotSet s.due i true)).setTu
      (.run (slotSet flagq i false) (if slotGet s.due i then slotSet ovfq i true else ovfq)) := by
  unfold tickFlag
  rw [h]
  rfl

/-- TICK_OVF(i) in a TICK (R94). -/
theorem tickOvf_run (i : Slot) {s : State} {flagq ovfq : SlotSet} (h : s.tu = .run flagq ovfq) :
    tickOvf i s = (s.setOvf (slotSet s.ovf i (inc s.params.ovfPolicy (slotGet s.ovf i)))).setTu
      (.run flagq (slotSet ovfq i false)) := by
  simp [tickOvf, h, countMiss]

/-- What TICK does where none is in progress, and that it is held where one is (R90, R100). -/
theorem execTick_idle {s : State} (h : s.tu = .idle) :
    execTick s = .next (if s.params.tickAtomic then tickAll s else tickBegin s) := by
  simp [execTick, h]

theorem execTick_run {s : State} {flagq ovfq : SlotSet} (h : s.tu = .run flagq ovfq) :
    execTick s = .next s := by
  simp [execTick, h]

/-! ### The sequencer -/

/-- SCAN(c) of a slot whose flag is clear (R112). -/
theorem scan_clear (v : View) {s : State} {c : Slot} (h : s.ds = .scan c.castSucc)
    (hd : slotGet s.due c = false) :
    scan v s = (s.setDue (slotSet s.due c false)).setDs (.scan c.succ) := by
  simp [scan, h, hd]

/-- SCAN(c) of a due slot with a callback (R112). -/
theorem scan_invoke (v : View) {s : State} {c : Slot} {h : Handler} (hs : s.ds = .scan c.castSucc)
    (hd : slotGet s.due c = true) (hc : callbackFor v c s = some h) :
    scan v s = (s.setDue (slotSet s.due c false)).setDs (.await c h) := by
  simp [scan, hs, hd, hc]

/-- SCAN(c) of a due slot without one (R112, R118). -/
theorem scan_empty (v : View) {s : State} {c : Slot} (hs : s.ds = .scan c.castSucc)
    (hd : slotGet s.due c = true) (hc : callbackFor v c s = none) :
    scan v s = (s.setDue (slotSet s.due c false)).setDs (.scan c.succ) := by
  simp [scan, hs, hd, hc]

/-- What a SCAN can do: clear the flag of the cursor's slot and move on or invoke; the rest of the state is as it was. -/
theorem scan_cases (v : View) {s : State} {c : Slot} (h : s.ds = .scan c.castSucc) :
    (∃ d, scan v s = (s.setDue (slotSet s.due c false)).setDs d ∧
      (d = .scan c.succ ∨
        ∃ h, slotGet s.due c = true ∧ callbackFor v c s = some h ∧ d = .await c h)) := by
  cases hd : slotGet s.due c
  · exact ⟨_, scan_clear v h hd, .inl rfl⟩
  · cases hc : callbackFor v c s
    · exact ⟨_, scan_empty v h hd hc, .inl rfl⟩
    · exact ⟨_, scan_invoke v h hd hc, .inr ⟨_, rfl, rfl, rfl⟩⟩

/-! ### Registration and introspection -/

theorem writeCallback_slot (i : Slot) (x : Callback) (s : State) :
    writeCallback i.val x s = (retire .done s).setCb (slotSet s.cb i x) := by
  simp [writeCallback]

theorem writeCallback_out {id : Nat} (x : Callback) (s : State) (h : 8 ≤ id) :
    writeCallback id x s = retire .done s := by
  simp [writeCallback, slotOf_of_ge h]

theorem respondSlot_slot (i : Slot) (f : Slot → Word) (s : State) :
    respondSlot i.val f s = retire (.value (f i)) s := by
  simp [respondSlot]

theorem respondSlot_out {id : Nat} (f : Slot → Word) (s : State) (h : 8 ≤ id) :
    respondSlot id f s = refuse .slotRange s := by
  simp [respondSlot, slotOf_of_ge h]

end Sys2Proof.Machine
end

