-- ==== Sys2Proof/Laws/Frames.lean ====
section
/-! SUPPORT. The frame of each step, field by field: what it leaves unchanged, and the fields it writes outright. -/

namespace Sys2Proof.Machine

/-! ### TICK_BEGIN (R91) -/

@[simp] theorem tickBegin_params (s : State) : (tickBegin s).params = s.params := rfl
@[simp] theorem tickBegin_tick (s : State) : (tickBegin s).tick = s.tick + 1 := rfl
@[simp] theorem tickBegin_due (s : State) : (tickBegin s).due = s.due := rfl
@[simp] theorem tickBegin_ovf (s : State) : (tickBegin s).ovf = s.ovf := rfl
@[simp] theorem tickBegin_cb (s : State) : (tickBegin s).cb = s.cb := rfl
@[simp] theorem tickBegin_tu (s : State) : (tickBegin s).tu = .run (hits s.params (s.tick + 1)) noSlots := rfl
@[simp] theorem tickBegin_ds (s : State) : (tickBegin s).ds = s.ds := rfl
@[simp] theorem tickBegin_cbsnap (s : State) : (tickBegin s).cbsnap = s.cbsnap := rfl
@[simp] theorem tickBegin_refused (s : State) : (tickBegin s).refused = s.refused := rfl
@[simp] theorem tickBegin_issuer (s : State) : (tickBegin s).issuer = s.issuer := rfl
@[simp] theorem tickBegin_tickBy (s : State) : (tickBegin s).tickBy = s.issuer := rfl
@[simp] theorem tickBegin_passBy (s : State) : (tickBegin s).passBy = s.passBy := rfl
@[simp] theorem tickBegin_plan (s : State) : (tickBegin s).plan = s.plan := rfl
@[simp] theorem tickBegin_draws (s : State) : (tickBegin s).draws = s.draws := rfl

/-! ### TICK_FLAG (R93) -/

@[simp] theorem tickFlag_params (i : Slot) (s : State) : (tickFlag i s).params = s.params := by
  unfold tickFlag
  split <;> rfl
@[simp] theorem tickFlag_tick (i : Slot) (s : State) : (tickFlag i s).tick = s.tick := by
  unfold tickFlag
  split <;> rfl
@[simp] theorem tickFlag_ovf (i : Slot) (s : State) : (tickFlag i s).ovf = s.ovf := by
  unfold tickFlag
  split <;> rfl
@[simp] theorem tickFlag_cb (i : Slot) (s : State) : (tickFlag i s).cb = s.cb := by
  unfold tickFlag
  split <;> rfl
@[simp] theorem tickFlag_ds (i : Slot) (s : State) : (tickFlag i s).ds = s.ds := by
  unfold tickFlag
  split <;> rfl
@[simp] theorem tickFlag_cbsnap (i : Slot) (s : State) : (tickFlag i s).cbsnap = s.cbsnap := by
  unfold tickFlag
  split <;> rfl
@[simp] theorem tickFlag_refused (i : Slot) (s : State) : (tickFlag i s).refused = s.refused := by
  unfold tickFlag
  split <;> rfl
@[simp] theorem tickFlag_ports (i : Slot) (s : State) : (tickFlag i s).ports = s.ports := by
  unfold tickFlag
  split <;> rfl
@[simp] theorem tickFlag_issuer (i : Slot) (s : State) : (tickFlag i s).issuer = s.issuer := by
  unfold tickFlag
  split <;> rfl
@[simp] theorem tickFlag_tickBy (i : Slot) (s : State) : (tickFlag i s).tickBy = s.tickBy := by
  unfold tickFlag
  split <;> rfl
@[simp] theorem tickFlag_passBy (i : Slot) (s : State) : (tickFlag i s).passBy = s.passBy := by
  unfold tickFlag
  split <;> rfl
@[simp] theorem tickFlag_plan (i : Slot) (s : State) : (tickFlag i s).plan = s.plan := by
  unfold tickFlag
  split <;> rfl
@[simp] theorem tickFlag_draws (i : Slot) (s : State) : (tickFlag i s).draws = s.draws := by
  unfold tickFlag
  split <;> rfl

/-! ### TICK_OVF (R94) -/

@[simp] theorem tickOvf_params (i : Slot) (s : State) : (tickOvf i s).params = s.params := by
  unfold tickOvf
  split <;> rfl
@[simp] theorem tickOvf_tick (i : Slot) (s : State) : (tickOvf i s).tick = s.tick := by
  unfold tickOvf
  split <;> rfl
@[simp] theorem tickOvf_due (i : Slot) (s : State) : (tickOvf i s).due = s.due := by
  unfold tickOvf
  split <;> rfl
@[simp] theorem tickOvf_cb (i : Slot) (s : State) : (tickOvf i s).cb = s.cb := by
  unfold tickOvf
  split <;> rfl
@[simp] theorem tickOvf_ds (i : Slot) (s : State) : (tickOvf i s).ds = s.ds := by
  unfold tickOvf
  split <;> rfl
@[simp] theorem tickOvf_cbsnap (i : Slot) (s : State) : (tickOvf i s).cbsnap = s.cbsnap := by
  unfold tickOvf
  split <;> rfl
@[simp] theorem tickOvf_refused (i : Slot) (s : State) : (tickOvf i s).refused = s.refused := by
  unfold tickOvf
  split <;> rfl
@[simp] theorem tickOvf_ports (i : Slot) (s : State) : (tickOvf i s).ports = s.ports := by
  unfold tickOvf
  split <;> rfl
@[simp] theorem tickOvf_issuer (i : Slot) (s : State) : (tickOvf i s).issuer = s.issuer := by
  unfold tickOvf
  split <;> rfl
@[simp] theorem tickOvf_tickBy (i : Slot) (s : State) : (tickOvf i s).tickBy = s.tickBy := by
  unfold tickOvf
  split <;> rfl
@[simp] theorem tickOvf_passBy (i : Slot) (s : State) : (tickOvf i s).passBy = s.passBy := by
  unfold tickOvf
  split <;> rfl
@[simp] theorem tickOvf_plan (i : Slot) (s : State) : (tickOvf i s).plan = s.plan := by
  unfold tickOvf
  split <;> rfl
@[simp] theorem tickOvf_draws (i : Slot) (s : State) : (tickOvf i s).draws = s.draws := by
  unfold tickOvf
  split <;> rfl

/-! ### TICK_END (R96) -/

@[simp] theorem tickEnd_params (s : State) : (tickEnd s).params = s.params := rfl
@[simp] theorem tickEnd_tick (s : State) : (tickEnd s).tick = rollover s.params s.tick := rfl
@[simp] theorem tickEnd_due (s : State) : (tickEnd s).due = s.due := rfl
@[simp] theorem tickEnd_ovf (s : State) : (tickEnd s).ovf = s.ovf := rfl
@[simp] theorem tickEnd_cb (s : State) : (tickEnd s).cb = s.cb := rfl
@[simp] theorem tickEnd_tu (s : State) : (tickEnd s).tu = .idle := rfl
@[simp] theorem tickEnd_ds (s : State) : (tickEnd s).ds = s.ds := rfl
@[simp] theorem tickEnd_cbsnap (s : State) : (tickEnd s).cbsnap = s.cbsnap := rfl
@[simp] theorem tickEnd_refused (s : State) : (tickEnd s).refused = s.refused := rfl
@[simp] theorem tickEnd_issuer (s : State) : (tickEnd s).issuer = s.issuer := rfl
@[simp] theorem tickEnd_tickBy (s : State) : (tickEnd s).tickBy = s.tickBy := rfl
@[simp] theorem tickEnd_passBy (s : State) : (tickEnd s).passBy = s.passBy := rfl
@[simp] theorem tickEnd_plan (s : State) : (tickEnd s).plan = s.plan := rfl
@[simp] theorem tickEnd_draws (s : State) : (tickEnd s).draws = s.draws := rfl

/-! ### TICK_ALL (R98) -/

@[simp] theorem tickAll_params (s : State) : (tickAll s).params = s.params := rfl
@[simp] theorem tickAll_tick (s : State) : (tickAll s).tick = rollover s.params (s.tick + 1) := rfl
@[simp] theorem tickAll_due (s : State) : (tickAll s).due = dueAfter s (s.tick + 1) := rfl
@[simp] theorem tickAll_ovf (s : State) : (tickAll s).ovf = ovfAfter s (s.tick + 1) := rfl
@[simp] theorem tickAll_cb (s : State) : (tickAll s).cb = s.cb := rfl
@[simp] theorem tickAll_tu (s : State) : (tickAll s).tu = s.tu := rfl
@[simp] theorem tickAll_ds (s : State) : (tickAll s).ds = s.ds := rfl
@[simp] theorem tickAll_cbsnap (s : State) : (tickAll s).cbsnap = s.cbsnap := rfl
@[simp] theorem tickAll_refused (s : State) : (tickAll s).refused = s.refused := rfl
@[simp] theorem tickAll_issuer (s : State) : (tickAll s).issuer = s.issuer := rfl
@[simp] theorem tickAll_tickBy (s : State) : (tickAll s).tickBy = s.tickBy := rfl
@[simp] theorem tickAll_passBy (s : State) : (tickAll s).passBy = s.passBy := rfl
@[simp] theorem tickAll_plan (s : State) : (tickAll s).plan = s.plan := rfl
@[simp] theorem tickAll_draws (s : State) : (tickAll s).draws = s.draws := rfl

/-! ### DISPATCH_ACCEPT (R111) -/

@[simp] theorem dispatchAccept_params (s : State) : (dispatchAccept s).params = s.params := rfl
@[simp] theorem dispatchAccept_tick (s : State) : (dispatchAccept s).tick = s.tick := rfl
@[simp] theorem dispatchAccept_due (s : State) : (dispatchAccept s).due = s.due := rfl
@[simp] theorem dispatchAccept_ovf (s : State) : (dispatchAccept s).ovf = s.ovf := rfl
@[simp] theorem dispatchAccept_cb (s : State) : (dispatchAccept s).cb = s.cb := rfl
@[simp] theorem dispatchAccept_tu (s : State) : (dispatchAccept s).tu = s.tu := rfl
@[simp] theorem dispatchAccept_ds (s : State) : (dispatchAccept s).ds = .scan 0 := rfl
@[simp] theorem dispatchAccept_cbsnap (s : State) : (dispatchAccept s).cbsnap = s.cb := rfl
@[simp] theorem dispatchAccept_refused (s : State) : (dispatchAccept s).refused = s.refused := rfl
@[simp] theorem dispatchAccept_issuer (s : State) : (dispatchAccept s).issuer = s.issuer := rfl
@[simp] theorem dispatchAccept_tickBy (s : State) : (dispatchAccept s).tickBy = s.tickBy := rfl
@[simp] theorem dispatchAccept_passBy (s : State) : (dispatchAccept s).passBy = s.issuer := rfl
@[simp] theorem dispatchAccept_plan (s : State) : (dispatchAccept s).plan = s.plan := rfl
@[simp] theorem dispatchAccept_draws (s : State) : (dispatchAccept s).draws = s.draws := rfl

/-! ### SCAN (R112) -/

/-- A SCAN writes the due flags and `DS`, nothing else (R112, R119). -/
theorem scan_eq_writes (v : View) (s : State) : ∃ due ds, scan v s = (s.setDue due).setDs ds := by
  cases hds : s.ds with
  | idle => exact ⟨s.due, s.ds, (show scan v s = s by simp [scan, hds]).trans rfl⟩
  | await c h => exact ⟨s.due, s.ds, (show scan v s = s by simp [scan, hds]).trans rfl⟩
  | scan cur =>
    cases hc : cursorSlot cur with
    | none => exact ⟨s.due, s.ds, (show scan v s = s by simp [scan, hds, hc]).trans rfl⟩
    | some c =>
      rw [cursorSlot_eq_some_iff] at hc
      obtain ⟨d, hd, -⟩ := scan_cases v (hc ▸ hds)
      exact ⟨_, _, hd⟩

@[simp] theorem scan_params (v : View) (s : State) : (scan v s).params = s.params := by
  obtain ⟨due, ds, h⟩ := scan_eq_writes v s
  simp [h]
@[simp] theorem scan_tick (v : View) (s : State) : (scan v s).tick = s.tick := by
  obtain ⟨due, ds, h⟩ := scan_eq_writes v s
  simp [h]
@[simp] theorem scan_ovf (v : View) (s : State) : (scan v s).ovf = s.ovf := by
  obtain ⟨due, ds, h⟩ := scan_eq_writes v s
  simp [h]
@[simp] theorem scan_cb (v : View) (s : State) : (scan v s).cb = s.cb := by
  obtain ⟨due, ds, h⟩ := scan_eq_writes v s
  simp [h]
@[simp] theorem scan_tu (v : View) (s : State) : (scan v s).tu = s.tu := by
  obtain ⟨due, ds, h⟩ := scan_eq_writes v s
  simp [h]
@[simp] theorem scan_cbsnap (v : View) (s : State) : (scan v s).cbsnap = s.cbsnap := by
  obtain ⟨due, ds, h⟩ := scan_eq_writes v s
  simp [h]
@[simp] theorem scan_refused (v : View) (s : State) : (scan v s).refused = s.refused := by
  obtain ⟨due, ds, h⟩ := scan_eq_writes v s
  simp [h]
@[simp] theorem scan_ports (v : View) (s : State) : (scan v s).ports = s.ports := by
  obtain ⟨due, ds, h⟩ := scan_eq_writes v s
  simp [h]
@[simp] theorem scan_issuer (v : View) (s : State) : (scan v s).issuer = s.issuer := by
  obtain ⟨due, ds, h⟩ := scan_eq_writes v s
  simp [h]
@[simp] theorem scan_tickBy (v : View) (s : State) : (scan v s).tickBy = s.tickBy := by
  obtain ⟨due, ds, h⟩ := scan_eq_writes v s
  simp [h]
@[simp] theorem scan_passBy (v : View) (s : State) : (scan v s).passBy = s.passBy := by
  obtain ⟨due, ds, h⟩ := scan_eq_writes v s
  simp [h]
@[simp] theorem scan_plan (v : View) (s : State) : (scan v s).plan = s.plan := by
  obtain ⟨due, ds, h⟩ := scan_eq_writes v s
  simp [h]
@[simp] theorem scan_draws (v : View) (s : State) : (scan v s).draws = s.draws := by
  obtain ⟨due, ds, h⟩ := scan_eq_writes v s
  simp [h]

/-! ### SCAN_END (R113) -/

@[simp] theorem scanEnd_params (s : State) : (scanEnd s).params = s.params := rfl
@[simp] theorem scanEnd_tick (s : State) : (scanEnd s).tick = s.tick := rfl
@[simp] theorem scanEnd_due (s : State) : (scanEnd s).due = s.due := rfl
@[simp] theorem scanEnd_ovf (s : State) : (scanEnd s).ovf = s.ovf := rfl
@[simp] theorem scanEnd_cb (s : State) : (scanEnd s).cb = s.cb := rfl
@[simp] theorem scanEnd_tu (s : State) : (scanEnd s).tu = s.tu := rfl
@[simp] theorem scanEnd_ds (s : State) : (scanEnd s).ds = .idle := rfl
@[simp] theorem scanEnd_cbsnap (s : State) : (scanEnd s).cbsnap = s.cbsnap := rfl
@[simp] theorem scanEnd_refused (s : State) : (scanEnd s).refused = s.refused := rfl
@[simp] theorem scanEnd_issuer (s : State) : (scanEnd s).issuer = s.issuer := rfl
@[simp] theorem scanEnd_tickBy (s : State) : (scanEnd s).tickBy = s.tickBy := rfl
@[simp] theorem scanEnd_passBy (s : State) : (scanEnd s).passBy = s.passBy := rfl
@[simp] theorem scanEnd_plan (s : State) : (scanEnd s).plan = s.plan := rfl
@[simp] theorem scanEnd_draws (s : State) : (scanEnd s).draws = s.draws := rfl

/-! ### REG and UNREG (R130, R131) -/

@[simp] theorem writeCallback_params (id : Nat) (x : Callback) (s : State) : (writeCallback id x s).params = s.params := by
  unfold writeCallback
  split <;> rfl
@[simp] theorem writeCallback_tick (id : Nat) (x : Callback) (s : State) : (writeCallback id x s).tick = s.tick := by
  unfold writeCallback
  split <;> rfl
@[simp] theorem writeCallback_due (id : Nat) (x : Callback) (s : State) : (writeCallback id x s).due = s.due := by
  unfold writeCallback
  split <;> rfl
@[simp] theorem writeCallback_ovf (id : Nat) (x : Callback) (s : State) : (writeCallback id x s).ovf = s.ovf := by
  unfold writeCallback
  split <;> rfl
@[simp] theorem writeCallback_tu (id : Nat) (x : Callback) (s : State) : (writeCallback id x s).tu = s.tu := by
  unfold writeCallback
  split <;> rfl
@[simp] theorem writeCallback_ds (id : Nat) (x : Callback) (s : State) : (writeCallback id x s).ds = s.ds := by
  unfold writeCallback
  split <;> rfl
@[simp] theorem writeCallback_cbsnap (id : Nat) (x : Callback) (s : State) : (writeCallback id x s).cbsnap = s.cbsnap := by
  unfold writeCallback
  split <;> rfl
@[simp] theorem writeCallback_refused (id : Nat) (x : Callback) (s : State) : (writeCallback id x s).refused = s.refused := by
  unfold writeCallback
  split <;> rfl
@[simp] theorem writeCallback_issuer (id : Nat) (x : Callback) (s : State) : (writeCallback id x s).issuer = s.issuer := by
  unfold writeCallback
  split <;> rfl
@[simp] theorem writeCallback_tickBy (id : Nat) (x : Callback) (s : State) : (writeCallback id x s).tickBy = s.tickBy := by
  unfold writeCallback
  split <;> rfl
@[simp] theorem writeCallback_passBy (id : Nat) (x : Callback) (s : State) : (writeCallback id x s).passBy = s.passBy := by
  unfold writeCallback
  split <;> rfl
@[simp] theorem writeCallback_plan (id : Nat) (x : Callback) (s : State) : (writeCallback id x s).plan = s.plan := by
  unfold writeCallback
  split <;> rfl
@[simp] theorem writeCallback_draws (id : Nat) (x : Callback) (s : State) : (writeCallback id x s).draws = s.draws := by
  unfold writeCallback
  split <;> rfl

/-! ### RDOVF and RDDUE (R132, R133) -/

@[simp] theorem respondSlot_params (id : Nat) (f : Slot → Word) (s : State) : (respondSlot id f s).params = s.params := by
  unfold respondSlot
  split <;> rfl
@[simp] theorem respondSlot_tick (id : Nat) (f : Slot → Word) (s : State) : (respondSlot id f s).tick = s.tick := by
  unfold respondSlot
  split <;> rfl
@[simp] theorem respondSlot_due (id : Nat) (f : Slot → Word) (s : State) : (respondSlot id f s).due = s.due := by
  unfold respondSlot
  split <;> rfl
@[simp] theorem respondSlot_ovf (id : Nat) (f : Slot → Word) (s : State) : (respondSlot id f s).ovf = s.ovf := by
  unfold respondSlot
  split <;> rfl
@[simp] theorem respondSlot_cb (id : Nat) (f : Slot → Word) (s : State) : (respondSlot id f s).cb = s.cb := by
  unfold respondSlot
  split <;> rfl
@[simp] theorem respondSlot_tu (id : Nat) (f : Slot → Word) (s : State) : (respondSlot id f s).tu = s.tu := by
  unfold respondSlot
  split <;> rfl
@[simp] theorem respondSlot_ds (id : Nat) (f : Slot → Word) (s : State) : (respondSlot id f s).ds = s.ds := by
  unfold respondSlot
  split <;> rfl
@[simp] theorem respondSlot_cbsnap (id : Nat) (f : Slot → Word) (s : State) : (respondSlot id f s).cbsnap = s.cbsnap := by
  unfold respondSlot
  split <;> rfl
@[simp] theorem respondSlot_issuer (id : Nat) (f : Slot → Word) (s : State) : (respondSlot id f s).issuer = s.issuer := by
  unfold respondSlot
  split <;> rfl
@[simp] theorem respondSlot_tickBy (id : Nat) (f : Slot → Word) (s : State) : (respondSlot id f s).tickBy = s.tickBy := by
  unfold respondSlot
  split <;> rfl
@[simp] theorem respondSlot_passBy (id : Nat) (f : Slot → Word) (s : State) : (respondSlot id f s).passBy = s.passBy := by
  unfold respondSlot
  split <;> rfl
@[simp] theorem respondSlot_plan (id : Nat) (f : Slot → Word) (s : State) : (respondSlot id f s).plan = s.plan := by
  unfold respondSlot
  split <;> rfl
@[simp] theorem respondSlot_draws (id : Nat) (f : Slot → Word) (s : State) : (respondSlot id f s).draws = s.draws := by
  unfold respondSlot
  split <;> rfl

end Sys2Proof.Machine
end

