-- ==== Sys2Proof/Laws/PerInstr.lean ====
section
/-! SUPPORT. One fact about every command as syntax: its word matches its row of the opcode map (R73). -/

namespace Sys2Proof.Laws

/-- R73: "A word `w` spells mnemonic M exactly when `w & mask(M) == match(M)`": the encoder's word does. -/
def RowOfOpcodeMap.Statement (i : Instr) : Prop :=
  i.wellFormed = true → encode i &&& i.rowMask = i.rowMatch

/-- The bits of a field-built word under a field-built mask. -/
theorem wordOf_and (op slot m0 m1 : BitVec 4) (p m2 : BitVec 1) (m3 : BitVec 7) (h m4 : Handler) :
    wordOf op slot p h &&& (m0 ++ m1 ++ m2 ++ m3 ++ m4 : BitVec 32) =
      ((op &&& m0) ++ (slot &&& m1) ++ (p &&& m2) ++ (0 : BitVec 7) ++ (h &&& m4) : BitVec 32) := by
  have h0 : (0 : BitVec 7) = 0 &&& m3 := by simp
  rw [h0, wordOf, ← BitVec.and_append, ← BitVec.and_append, ← BitVec.and_append, ← BitVec.and_append]

theorem RowOfOpcodeMap.tick : RowOfOpcodeMap.Statement .tick := fun _ => by decide

theorem RowOfOpcodeMap.dispatch : RowOfOpcodeMap.Statement .dispatch := fun _ => by decide

theorem RowOfOpcodeMap.cbret : RowOfOpcodeMap.Statement .cbret := fun _ => by decide

theorem RowOfOpcodeMap.reg (slot : Nat) (h : Handler) : RowOfOpcodeMap.Statement (.reg slot h) := fun _ => by
  have hm : (0xF0FF0000 : Word) = (0xF#4 ++ 0#4 ++ 1#1 ++ 0x7F#7 ++ 0#16 : BitVec 32) := by decide
  simp only [encode, Instr.rowMask, Instr.rowMatch]
  rw [hm, wordOf_and]
  simp

/-- The rows of UNREG, RDOVF and RDDUE have one mask. -/
theorem wordOf_and_slotMask (op slot : BitVec 4) :
    wordOf op slot 0 0 &&& 0xF0FFFFFF = (op ++ 0#28 : BitVec 32) := by
  have hm : (0xF0FFFFFF : Word) = (0xF#4 ++ 0#4 ++ 1#1 ++ 0x7F#7 ++ 0xFFFF#16 : BitVec 32) := by decide
  rw [hm, wordOf_and]
  have hz : slot &&& 0#4 = 0 := by simp
  rw [hz]
  revert op
  decide

theorem RowOfOpcodeMap.unreg (slot : Nat) : RowOfOpcodeMap.Statement (.unreg slot) := fun _ => by
  simp only [encode, Instr.rowMask, Instr.rowMatch]
  rw [wordOf_and_slotMask]
  decide

theorem RowOfOpcodeMap.rdovf (slot : Nat) : RowOfOpcodeMap.Statement (.rdovf slot) := fun _ => by
  simp only [encode, Instr.rowMask, Instr.rowMatch]
  rw [wordOf_and_slotMask]
  decide

theorem RowOfOpcodeMap.rddue (slot : Nat) : RowOfOpcodeMap.Statement (.rddue slot) := fun _ => by
  simp only [encode, Instr.rowMask, Instr.rowMatch]
  rw [wordOf_and_slotMask]
  decide

end Sys2Proof.Laws
end

