-- ==== Sys2Proof/Laws/Schedule.lean ====
section
/-! SUPPORT. Which moves are enabled, that only an enabled move is taken, and the inversion of `step`: everything one step
can do. -/

namespace Sys2Proof.Machine

/-! ### The list of enabled moves, by agent -/

theorem mem_hostMoves {s : State} {m : Move} (h : m ∈ hostMoves s) :
    ∃ a w, m = .host a ∧ presented s a = some w := by
  simp only [hostMoves, List.mem_map, List.mem_filter] at h
  obtain ⟨a, ⟨-, ha⟩, rfl⟩ := h
  obtain ⟨w, hw⟩ := Option.isSome_iff_exists.mp ha
  exact ⟨a, w, rfl, hw⟩

/-- What presenting a word says of its agent (R162, R100). -/
theorem presented_eq_some {s : State} {a : HostAgent} {w : Word} (h : presented s a = some w) :
    (∃ rest, (getPort s.ports a).cmds = w :: rest) ∧ mayPresent s a = true ∧ isHeld s w = false := by
  unfold presented at h
  split at h
  · cases h
  · rename_i w' rest hc
    split at h
    · rename_i hp
      cases h
      simp only [Bool.and_eq_true, Bool.not_eq_true'] at hp
      exact ⟨⟨rest, hc⟩, hp.1, hp.2⟩
    · cases h

theorem mem_tickMoves {s : State} {m : Move} (h : m ∈ tickMoves s) :
    ∃ flagq ovfq, s.tu = .run flagq ovfq ∧
      ((∃ i, m = .tickFlag i ∧ slotGet flagq i = true ∧ orderAllows s.params.tickOrder flagq i = true) ∨
       (∃ i, m = .tickOvf i ∧ slotGet ovfq i = true) ∨
       (m = .tickEnd ∧ isEmptySet flagq = true ∧ isEmptySet ovfq = true)) := by
  unfold tickMoves at h
  split at h
  · cases h
  · rename_i flagq ovfq htu
    refine ⟨flagq, ovfq, htu, ?_⟩
    simp only [List.mem_append, flagMoves, ovfMoves, endMoves, List.mem_map, List.mem_filter,
      mem_slots, true_and, Bool.and_eq_true] at h
    rcases h with (⟨i, ⟨hi, ho⟩, rfl⟩ | ⟨i, hi, rfl⟩) | h
    · exact .inl ⟨i, rfl, hi, ho⟩
    · exact .inr (.inl ⟨i, rfl, hi⟩)
    · split at h
      · rename_i he
        simp only [List.mem_singleton] at h
        exact .inr (.inr ⟨h, he.1, he.2⟩)
      · cases h

theorem mem_seqMoves {s : State} {m : Move} (h : m ∈ seqMoves s) :
    (∃ c v, m = .scan v ∧ s.ds = .scan c.castSucc ∧ v ∈ views s c) ∨ (m = .scanEnd ∧ s.ds = .scan 8) := by
  unfold seqMoves at h
  split at h
  · cases h
  · cases h
  · rename_i cur hds
    split at h
    · rename_i c hc
      rw [cursorSlot_eq_some_iff] at hc
      subst hc
      simp only [List.mem_map] at h
      obtain ⟨v, hv, rfl⟩ := h
      exact .inl ⟨c, v, rfl, hds, hv⟩
    · rename_i hc
      rw [cursorSlot_eq_none_iff] at hc
      subst hc
      simp only [List.mem_singleton] at h
      exact .inr ⟨h, hds⟩

theorem mem_enabled {s : State} {m : Move} :
    m ∈ enabled s ↔ m ∈ hostMoves s ∨ m ∈ tickMoves s ∨ m ∈ seqMoves s := by
  simp [enabled]

/-! ### The choice -/

theorem freeMove_mem {s : State} {m : Move} (h : freeMove s = some m) : m ∈ enabled s := by
  unfold freeMove at h
  split at h
  · cases h
  · rename_i m' he
    cases h
    simp [he]
  · rename_i he
    rw [he]
    exact List.mem_of_getElem? h

/-- Only an enabled move is taken (R12, R155). -/
theorem nextMove_mem {s : State} {m : Move} (h : nextMove s = some m) : m ∈ enabled s := by
  unfold nextMove at h
  split at h
  · exact freeMove_mem h
  · split at h
    · rename_i hc
      cases h
      simpa using hc
    · exact freeMove_mem h

/-! ### The use of the plan -/

section
variable (s : State)
@[simp] theorem usePlan_params : (usePlan s).params = s.params := rfl
@[simp] theorem usePlan_tick : (usePlan s).tick = s.tick := rfl
@[simp] theorem usePlan_due : (usePlan s).due = s.due := rfl
@[simp] theorem usePlan_ovf : (usePlan s).ovf = s.ovf := rfl
@[simp] theorem usePlan_cb : (usePlan s).cb = s.cb := rfl
@[simp] theorem usePlan_tu : (usePlan s).tu = s.tu := rfl
@[simp] theorem usePlan_ds : (usePlan s).ds = s.ds := rfl
@[simp] theorem usePlan_cbsnap : (usePlan s).cbsnap = s.cbsnap := rfl
@[simp] theorem usePlan_refused : (usePlan s).refused = s.refused := rfl
@[simp] theorem usePlan_ports : (usePlan s).ports = s.ports := rfl
@[simp] theorem usePlan_issuer : (usePlan s).issuer = s.issuer := rfl
@[simp] theorem usePlan_tickBy : (usePlan s).tickBy = s.tickBy := rfl
@[simp] theorem usePlan_passBy : (usePlan s).passBy = s.passBy := rfl
@[simp] theorem usePlan_plan : (usePlan s).plan = s.plan.tail := rfl
@[simp] theorem usePlan_draws : (usePlan s).draws = s.draws + 1 := rfl
end

/-! ### Everything a step can do -/

/-- The inversion of `step`: one case for each kind of atomic step (R155, R162), with its guard. -/
theorem step_cases {s t : State} (h : step s = .next t) :
    (∃ a w rest, nextMove s = some (.host a) ∧ (getPort s.ports a).cmds = w :: rest ∧
      mayPresent s a = true ∧ isHeld s w = false ∧ runWord a w (usePlan s) = .next t) ∨
    (∃ i flagq ovfq, nextMove s = some (.tickFlag i) ∧ s.tu = .run flagq ovfq ∧ slotGet flagq i = true ∧
      orderAllows s.params.tickOrder flagq i = true ∧ t = tickFlag i (usePlan s)) ∨
    (∃ i flagq ovfq, nextMove s = some (.tickOvf i) ∧ s.tu = .run flagq ovfq ∧ slotGet ovfq i = true ∧
      t = tickOvf i (usePlan s)) ∨
    (∃ flagq ovfq, nextMove s = some .tickEnd ∧ s.tu = .run flagq ovfq ∧
      (∀ i, slotGet flagq i = false) ∧ (∀ i, slotGet ovfq i = false) ∧ t = tickEnd (usePlan s)) ∨
    (∃ c v, nextMove s = some (.scan v) ∧ s.ds = .scan c.castSucc ∧ v ∈ views s c ∧
      t = scan v (usePlan s)) ∨
    (nextMove s = some .scanEnd ∧ s.ds = .scan 8 ∧ t = scanEnd (usePlan s)) := by
  unfold step at h
  split at h
  · rename_i m hm
    have hin := mem_enabled.mp (nextMove_mem hm)
    rcases hin with hin | hin | hin
    · obtain ⟨a, w, rfl, hp⟩ := mem_hostMoves hin
      obtain ⟨⟨rest, hc⟩, hmay, hheld⟩ := presented_eq_some hp
      refine .inl ⟨a, w, rest, hm, hc, hmay, hheld, ?_⟩
      simpa [runMove, hc] using h
    · obtain ⟨flagq, ovfq, htu, ⟨i, rfl, hi, ho⟩ | ⟨i, rfl, hi⟩ | ⟨rfl, hf, ho⟩⟩ := mem_tickMoves hin
      · simp only [runMove, Host.Outcome.next.injEq] at h
        exact .inr (.inl ⟨i, flagq, ovfq, hm, htu, hi, ho, h.symm⟩)
      · simp only [runMove, Host.Outcome.next.injEq] at h
        exact .inr (.inr (.inl ⟨i, flagq, ovfq, hm, htu, hi, h.symm⟩))
      · simp only [runMove, Host.Outcome.next.injEq] at h
        exact .inr (.inr (.inr (.inl ⟨flagq, ovfq, hm, htu, (isEmptySet_iff _).mp hf,
          (isEmptySet_iff _).mp ho, h.symm⟩)))
    · rcases mem_seqMoves hin with ⟨c, v, rfl, hds, hv⟩ | ⟨rfl, hds⟩
      · simp only [runMove, Host.Outcome.next.injEq] at h
        exact .inr (.inr (.inr (.inr (.inl ⟨c, v, hm, hds, hv, h.symm⟩))))
      · simp only [runMove, Host.Outcome.next.injEq] at h
        exact .inr (.inr (.inr (.inr (.inr ⟨hm, hds, h.symm⟩))))
  · cases h

/-- The inversion of a command's arrival: it spells no command and is refused, or it is performed (R76). -/
theorem runWord_cases {a : HostAgent} {w : Word} {s t : State} (h : runWord a w s = .next t) :
    (∃ e, decode w = .error e ∧ t = refuse (refuseReasonOf e) (s.setIssuer a)) ∨
    (∃ i, decode w = .ok i ∧ exec i (s.setIssuer a) = .next t) := by
  unfold runWord at h
  split at h
  · rename_i i hi
    exact .inr ⟨i, hi, h⟩
  · rename_i e he
    cases h
    exact .inl ⟨e, he, rfl⟩

/-- The inversion of `exec`: everything the performance of a command can do, one case for each meaning's branch. -/
theorem exec_cases {i : Instr} {s t : State} (h : exec i s = .next t) :
    (i = .tick ∧ s.tu ≠ .idle ∧ t = s) ∨
    (i = .tick ∧ s.tu = .idle ∧ s.params.tickAtomic = true ∧ t = tickAll s) ∨
    (i = .tick ∧ s.tu = .idle ∧ s.params.tickAtomic = false ∧ t = tickBegin s) ∨
    (i = .dispatch ∧ s.ds = .idle ∧ t = dispatchAccept s) ∨
    (i = .dispatch ∧ s.ds ≠ .idle ∧ t = refuse .dispatchBusy s) ∨
    (∃ id x, ((∃ r, i = .reg id r ∧ x = some r) ∨ (i = .unreg id ∧ x = none)) ∧ t = writeCallback id x s) ∨
    (∃ id f, (i = .rdovf id ∨ i = .rddue id) ∧ t = respondSlot id f s) ∨
    (∃ c r, i = .cbret ∧ s.ds = .await c r ∧ t = (retire .done s).setDs (.scan c.succ)) ∨
    (i = .cbret ∧ (∀ c r, s.ds ≠ .await c r) ∧ t = refuse .cbretUnexpected s) := by
  cases i with
  | tick =>
    simp only [exec] at h
    cases htu : s.tu with
    | idle =>
      rw [execTick_idle htu] at h
      cases hat : s.params.tickAtomic <;> simp_all
    | run f o =>
      rw [execTick_run htu] at h
      simp_all
  | dispatch =>
    simp only [exec, execDispatch, passRunning] at h
    cases hds : s.ds <;> simp_all
  | reg id r => simp_all [exec, execReg]
  | unreg id => simp_all [exec, execUnreg]
  | rdovf id =>
    simp only [exec, execRdovf, Host.Outcome.next.injEq] at h
    exact .inr (.inr (.inr (.inr (.inr (.inr (.inl ⟨id, _, .inl rfl, h.symm⟩))))))
  | rddue id =>
    simp only [exec, execRddue, Host.Outcome.next.injEq] at h
    exact .inr (.inr (.inr (.inr (.inr (.inr (.inl ⟨id, _, .inr rfl, h.symm⟩))))))
  | cbret =>
    simp only [exec, execCbret] at h
    cases hds : s.ds <;> simp_all

end Sys2Proof.Machine
end

