-- ==== Sys2Proof/Tests/Slice0.lean ====
section
/-! SUPPORT. Tests on single steps, with values from the spec's own tables and vectors (`95_test_vectors.md`,
`30_encoding.md` R81, `40_tick.md` R104), and the witnesses that the hypotheses of the statements can be met. -/

namespace Sys2Proof.Machine

/-! ### Helpers -/

/-- The next state of an outcome; the reset state where there is none. -/
def nextOf : Host.Outcome State Fault Refusal → State
  | .next t => t
  | .fault _ => State.reset
  | .refused _ => State.reset

def isNext : Host.Outcome State Fault Refusal → Bool
  | .next _ => true
  | .fault _ => false
  | .refused _ => false

theorem exists_next {o : Host.Outcome State Fault Refusal} (h : isNext o = true) : ∃ t, o = .next t := by
  cases o with
  | next t => exact ⟨t, rfl⟩
  | fault f => cases h
  | refused r => cases h

/-- A set of slots from its members. -/
def setOf (l : List Slot) : SlotSet := slotTab fun i => l.contains i

/-- The reset state with the fields of a vector: tick, due flags and tick unit. -/
def stTick (tick : TickCount) (due : List Slot) (tu : TickUnit) : State :=
  { State.reset with tick := tick, due := setOf due, tu := tu }

/-- The reset state with the fields of a vector: due flags, callbacks, snapshot and sequencer. -/
def stPass (due : List Slot) (cb snap : Slot → Callback) (ds : Sequencer) : State :=
  { State.reset with due := setOf due, cb := slotTab cb, cbsnap := slotTab snap, ds := ds }

/-- The setting of a vector: `OVF_POLICY` and `TICK_ATOMIC`. -/
def withPolicy (p : OvfPolicy) (atomic : Bool) (s : State) : State :=
  { s with params := { s.params with ovfPolicy := p, tickAtomic := atomic } }

/-- The monitor's command list and the next move. -/
def monitorNext (w : Word) (s : State) : State := present .monitor w s

def noCallback : Slot → Callback := fun _ => none

def callback3 : Slot → Callback := fun i => if i = 3 then some 0x00A1 else none

/-! ### Well-formedness: an ill-formed command for each check, and the boundary -/

theorem test_illFormed_reg : (Instr.reg 16 0).wellFormed = false := by decide
theorem test_illFormed_unreg : (Instr.unreg 16).wellFormed = false := by decide
theorem test_illFormed_rdovf : (Instr.rdovf 16).wellFormed = false := by decide
theorem test_illFormed_rddue : (Instr.rddue 99).wellFormed = false := by decide
theorem test_wellFormed_boundary : (Instr.reg 15 0xFFFF).wellFormed = true := by decide

/-! ### Decoding: words written out from R71 and R73, bit by bit, and the words of R81 and L2.6 -/

theorem test_decode_tick : decode 0b0001_0000_0_0000000_0000000000000000 = .ok .tick := by decide
theorem test_decode_dispatch : decode 0b0010_0000_0_0000000_0000000000000000 = .ok .dispatch := by decide
theorem test_decode_reg : decode 0b0011_0011_1_0000000_0000000010100001 = .ok (.reg 3 0x00A1) := by decide
theorem test_decode_unreg : decode 0b0011_0111_0_0000000_0000000000000000 = .ok (.unreg 7) := by decide
theorem test_decode_rdovf : decode 0b0100_1111_0_0000000_0000000000000000 = .ok (.rdovf 15) := by decide
theorem test_decode_rddue : decode 0b0101_0011_0_0000000_0000000000000000 = .ok (.rddue 3) := by decide
theorem test_decode_cbret : decode 0b0110_0000_0_0000000_0000000000000000 = .ok .cbret := by decide
theorem test_decode_zero : decode 0x00000000 = .error .reservedOpcode := by decide
theorem test_decode_opcode_first : decode 0x0F800001 = .error .reservedOpcode := by decide
theorem test_decode_opcode_seven : decode 0x70000000 = .error .reservedOpcode := by decide
theorem test_decode_tick_slot : decode 0x1F000000 = .error .reservedBits := by decide
theorem test_decode_reg_rsv : decode 0x37FF0000 = .error .reservedBits := by decide
theorem test_decode_unreg_h : decode 0x3700FFFF = .error .reservedBits := by decide
theorem test_decode_rdovf_p : decode 0x47800000 = .error .reservedBits := by decide
theorem test_decode_cbret_slot : decode 0x61000000 = .error .reservedBits := by decide
theorem test_encode_reg : encode (.reg 7 0x00B7) = 0x378000B7 := by decide
theorem test_invokeWord : invokeWord 7 0x00B7 = 0x070000B7 := by decide
theorem test_serialise : wordBytes 0x338000A1 = [0xA1, 0x00, 0x80, 0x33] := by decide
theorem test_decodeTableWord : decodeTableWord 32 0x3080FFFF = some (.reg 0 0xFFFF) := by decide
theorem test_refusal_codes :
    [RefuseReason.reservedOpcode, .reservedBits, .dispatchBusy, .cbretUnexpected, .slotRange].map refuseCode =
      [1, 2, 3, 4, 5] := by decide

/-! ### The assembler (R79, R80) -/

/-- `REG S10HZ, 0x00A1 ; x` is 0x338000A1 (R81). -/
theorem test_assemble_reg :
    assemble [['r', 'e', 'g', ' ', 'S', '1', '0', 'H', 'Z', ',', ' ', '0', 'x', '0', '0', 'A', '1', ' ', ';', 'x']] =
      .ok [0x338000A1] := by decide

/-- `TICKS 2` is two TICKs, `REG COUNT, NONE` is `UNREG 8` (R80). -/
theorem test_assemble_pseudo :
    assemble [['T', 'I', 'C', 'K', 'S', ' ', '2'],
      ['R', 'E', 'G', ' ', 'C', 'O', 'U', 'N', 'T', ',', 'N', 'O', 'N', 'E']] =
      .ok [0x10000000, 0x10000000, 0x38000000] := by decide

/-- A slot above 15 is rejected (R79). -/
theorem test_assemble_slot16 :
    assemble [['R', 'D', 'D', 'U', 'E', ' ', '1', '6']] = .error .slotTooBig := by decide

/-! ### TICK and the steps of the tick unit -/

/-- T10: 500 hits slots 7, 6, 5, 4, 3 and 1 but not slot 2 (500 mod 200 = 100), nor slot 0. -/
theorem test_tickAll_lanes :
    let t := nextOf (exec .tick (withPolicy .wrap true (stTick 499 [] .idle)))
    t.tick = 500 ∧ t.due = setOf [7, 6, 5, 4, 3, 1] := by decide

/-- T12: eight misses in one TICK, and the rollover. -/
theorem test_tickAll_rollover :
    let t := nextOf (exec .tick (withPolicy .wrap true (stTick 999 [0, 1, 2, 3, 4, 5, 6, 7] .idle)))
    t.tick = 0 ∧ t.ovf = Vector.replicate 8 1 := by decide

/-- S2: TICK_BEGIN at 999; `tick` = 1000 inside the TICK, every TICK_FLAG is pending. -/
theorem test_tickBegin :
    let t := nextOf (exec .tick (stTick 999 [] .idle))
    t.tick = 1000 ∧ t.tu = .run (setOf [0, 1, 2, 3, 4, 5, 6, 7]) noSlots := by decide

/-- S3: a second TICK is held, no state change. -/
theorem test_tick_held :
    let s := stTick 10 [] (.run (setOf [6]) noSlots)
    nextOf (exec .tick s) = s := by
  intro s
  rfl

/-- S1: TICK_FLAG(7) of a set flag leaves `TU` = T_RUN of no flag and TICK_OVF(7). -/
theorem test_tickFlag_miss :
    (tickFlag 7 (stTick 5 [7] (.run (setOf [7]) noSlots))).tu = .run noSlots (setOf [7]) := by decide

/-- T14, T15: the counter at `MAX`, under either policy. -/
theorem test_tickOvf_policies :
    let s := { stTick 5 [7] (.run noSlots (setOf [7])) with ovf := Vector.replicate 8 0xFFFFFFFF }
    slotGet (tickOvf 7 (withPolicy .wrap false s)).ovf 7 = 0 ∧
    slotGet (tickOvf 7 (withPolicy .saturate false s)).ovf 7 = 0xFFFFFFFF := by decide

/-- R96: at `TPS` the counter rolls over, below it stays. -/
theorem test_tickEnd :
    (tickEnd (stTick 1000 [] (.run noSlots noSlots))).tick = 0 ∧
    (tickEnd (stTick 999 [] (.run noSlots noSlots))).tick = 999 := by decide

/-! ### DISPATCH, CBRET and the steps of a pass -/

theorem test_dispatch_accept :
    let t := nextOf (exec .dispatch (stPass [3] callback3 noCallback .idle))
    t.ds = .scan 0 ∧ t.cbsnap = slotTab callback3 := by decide

/-- D8: refused DISPATCH_BUSY, `DS` unchanged. -/
theorem test_dispatch_busy :
    let t := nextOf (exec .dispatch (stPass [] callback3 callback3 (.await 3 0x00A1)))
    t.ds = .await 3 0x00A1 ∧ t.refused = true ∧ t.ports.mainLoop.reply = .refused .dispatchBusy := by decide

/-- D2: `DS` after SCAN(3) = D_AWAIT(3, 0x00A1), the flag is clear, the INVOKE word is 0x030000A1. -/
theorem test_scan_invoke :
    let t := scan .live (stPass [3] callback3 callback3 (.scan 3))
    t.ds = .await 3 0x00A1 ∧ t.due = noSlots ∧ invokeOut t = some 0x030000A1 := by decide

/-- D3: a set flag with no callback is cleared with no INVOKE. -/
theorem test_scan_empty :
    let t := scan .live (stPass [7] noCallback noCallback (.scan 7))
    t.ds = .scan 8 ∧ t.due = noSlots ∧ t.ovf = State.reset.ovf := by decide

/-- Registration during a pass (L2.4): `LIVE` invokes 0x0033, `SNAPSHOT` does not, `EITHER` admits both. -/
theorem test_scan_views :
    let s := stPass [3] (fun i => if i = 3 then some 0x0033 else none) noCallback (.scan 3)
    (scan .live s).ds = .await 3 0x0033 ∧ (scan .snapshot s).ds = .scan 4 ∧
      seqMoves s = [.scan .live, .scan .snapshot] := by decide

/-- D2: after CBRET `DS` = D_SCAN(4). -/
theorem test_cbret :
    (nextOf (exec .cbret (stPass [] callback3 callback3 (.await 3 0x00A1)))).ds = .scan 4 := by decide

/-- D11: in D_SCAN(4) refused CBRET_UNEXPECTED; the pass goes on unaffected. -/
theorem test_cbret_stray :
    let t := nextOf (exec .cbret (stPass [] callback3 callback3 (.scan 4)))
    t.ds = .scan 4 ∧ t.refused = true := by decide

/-! ### REG, UNREG, RDOVF, RDDUE -/

/-- G4: `h` = 0 is a reference, not NONE. -/
theorem test_reg_zero : (nextOf (exec (.reg 7 0) State.reset)).cb = slotTab fun i => if i = 7 then some 0 else none := by
  decide

/-- G5: REG of COUNT is a no-op, not a refusal. -/
theorem test_reg_count :
    let t := nextOf (exec (.reg 8 1) State.reset)
    t.cb = State.reset.cb ∧ t.refused = false ∧ t.ports.mainLoop.reply = .done := by decide

/-- D14: UNREG does not withdraw the outstanding INVOKE. -/
theorem test_unreg :
    let t := nextOf (exec (.unreg 3) (stPass [] callback3 callback3 (.await 3 0x00A1)))
    t.cb = slotTab noCallback ∧ invokeOut t = some 0x030000A1 := by decide

/-- G9: UNREG 9 is a no-op. -/
theorem test_unreg_nine :
    let t := nextOf (exec (.unreg 9) (stPass [] callback3 callback3 .idle))
    t.cb = slotTab callback3 ∧ t.refused = false := by decide

/-- G22: the whole counter is the response. -/
theorem test_rdovf :
    (nextOf (exec (.rdovf 7) { State.reset with ovf := Vector.replicate 8 0xFFFFFFFF })).ports.mainLoop.reply =
      .value 0xFFFFFFFF := by decide

/-- G16: RDOVF COUNT is refused SLOT_RANGE. -/
theorem test_rdovf_count :
    (nextOf (exec (.rdovf 8) State.reset)).ports.mainLoop.reply = .refused .slotRange := by decide

/-- G19, G20. -/
theorem test_rddue :
    (nextOf (exec (.rddue 7) (stTick 5 [7] .idle))).ports.mainLoop.reply = .value 1 ∧
    (nextOf (exec (.rddue 3) (stTick 5 [7] .idle))).ports.mainLoop.reply = .value 0 := by decide

/-- G21: RDDUE 15 is refused SLOT_RANGE. -/
theorem test_rddue_fifteen :
    (nextOf (exec (.rddue 15) State.reset)).ports.mainLoop.reply = .refused .slotRange := by decide

/-! ### One step of the machine -/

/-- Nothing is presented: the run is over. -/
theorem test_step_reset : step State.reset = .fault .runOver := by rfl

/-- R172: the first TICK after reset gives `tick` = 1. -/
theorem test_step_tick : (nextOf (step (State.reset.withFetchWord 32 0x10000000))).tick = 1 := by decide

/-- S4: 0x10000001 while a TICK is in progress is refused RESERVED_BITS, not held; `TU` unchanged. -/
theorem test_step_reservedBits :
    let t := nextOf (step (monitorNext 0x10000001 (stTick 10 [] (.run (setOf [6]) noSlots))))
    t.ports.monitor.reply = .refused .reservedBits ∧ t.refused = true ∧ t.tu = .run (setOf [6]) noSlots := by
  decide

/-- The host leaves an INVOKE unanswered: the hang of R166. -/
theorem test_step_hang : step (stPass [] callback3 callback3 (.await 3 0x00A1)) = .fault .callbackHang := by rfl

/-! ### Witnesses: the hypotheses of the statements can be met -/

/-- A state with a TICK of 1000 in progress, every TICK_FLAG pending, and SCAN(7) next: slot 7 is the boundary. -/
def stRace : State :=
  { stPass [7] callback3 callback3 (.scan 7) with
    tick := 1000, tu := .run (setOf [0, 1, 2, 3, 4, 5, 6, 7]) noSlots }

theorem witness_EveryStepKeepsInvariant :
    ∃ s t : State, s.Inv ∧ step s = .next t := by
  obtain ⟨t, ht⟩ := exists_next (o := step (State.reset.withFetchWord 32 0x10000000)) (by decide)
  exact ⟨_, t, by show (0 : Nat) < _; decide, ht⟩

theorem witness_EveryStepKeepsInvariant_run :
    ∃ s t : State, s.Inv ∧ s.tu ≠ .idle ∧ step s = .next t := by
  obtain ⟨t, ht⟩ := exists_next (o := step { stRace with plan := [.tickFlag 7] }) (by decide)
  refine ⟨_, t, ?_, by simp [stRace], ht⟩
  show (1 : Nat) ≤ _ ∧ _ ∧ (∀ i, _ → _) ∧ ∀ i, _ → _
  decide

theorem witness_DecodeOfEncodeIsTheCommand : (Instr.reg 15 0xFFFF).wellFormed = true := by decide

theorem witness_EncodeOfDecodeIsTheWord : ∃ w i, decode w = .ok i := ⟨0x3F80FFFF, .reg 15 0xFFFF, by decide⟩

theorem witness_WordSpellsMnemonicByMatchAndMask :
    (0x3F80FFFF : Word) &&& (Instr.reg 0 0).rowMask = (Instr.reg 0 0).rowMatch := by decide

theorem witness_ReservedOpcodeIsRefused :
    nextMove (monitorNext 0x0FFFFFFF State.reset) = some (.host .monitor) ∧
    (getPort (monitorNext 0x0FFFFFFF State.reset).ports .monitor).cmds = [0x0FFFFFFF] ∧
    (opField 0x0FFFFFFF = 0 ∨ 7 ≤ (opField 0x0FFFFFFF).toNat) := by decide

theorem witness_ReservedOpcodeIsRefused_seven :
    nextMove (monitorNext 0x70000000 State.reset) = some (.host .monitor) ∧
    (getPort (monitorNext 0x70000000 State.reset).ports .monitor).cmds = [0x70000000] ∧
    (opField 0x70000000 = 0 ∨ 7 ≤ (opField 0x70000000).toNat) := by decide

theorem witness_ReservedOpcodeIsRefused_fifteen :
    nextMove (monitorNext 0xF0000000 State.reset) = some (.host .monitor) ∧
    (getPort (monitorNext 0xF0000000 State.reset).ports .monitor).cmds = [0xF0000000] ∧
    (opField 0xF0000000 = 0 ∨ 7 ≤ (opField 0xF0000000).toNat) := by decide

theorem witness_ReservedBitsAreRefused :
    nextMove (monitorNext 0x10000001 State.reset) = some (.host .monitor) ∧
    (getPort (monitorNext 0x10000001 State.reset).ports .monitor).cmds = [0x10000001] ∧
    decode 0x10000001 = .error .reservedBits := by decide

theorem witness_ReservedBitsAreRefused_six :
    nextMove (monitorNext 0x68000000 State.reset) = some (.host .monitor) ∧
    (getPort (monitorNext 0x68000000 State.reset).ports .monitor).cmds = [0x68000000] ∧
    decode 0x68000000 = .error .reservedBits := by decide

theorem witness_SerialisedWordDecodesAsTheWord :
    decodeBytes [0xA1, 0x00, 0x80] = none ∧
    decodeBytes [0xA1, 0x00, 0x80, 0x33] = some (.ok (.reg 3 0x00A1), []) := by decide

theorem witness_InvokeWordIsPresentedWhileAwaiting :
    invokeOut (stPass [] callback3 callback3 (.await 7 0xFFFF)) = some 0x0700FFFF := by decide

theorem witness_AssemblerFormsEncode : (15 : Nat) ≤ 15 ∧ encode (.rddue 15) = 0x5F000000 := by decide

theorem witness_PseudoInstructionsExpand :
    numeral ['0'] = some 0 ∧ slotOperand ['C', 'O', 'U', 'N', 'T'] = .ok 8 := by decide

theorem witness_StepRunsThePresentedCommand :
    nextMove (monitorNext 0x60000000 State.reset) = some (.host .monitor) ∧
    (getPort (monitorNext 0x60000000 State.reset).ports .monitor).cmds = [0x60000000] ∧
    decode 0x60000000 = .ok .cbret := by decide

theorem witness_PresentedWordIsRunNext :
    isHeld State.reset 0x10000000 = false ∧ isHeld stRace 0x10000000 = true ∧
    isHeld stRace 0x20000000 = false := by decide

theorem witness_AnyEnabledStepMayBeNext :
    Move.tickFlag 0 ∈ enabled stRace ∧ Move.tickFlag 7 ∈ enabled stRace ∧ Move.scan .live ∈ enabled stRace ∧
    Move.tickEnd ∉ enabled stRace := by decide

theorem witness_HostAgentStepsAreEnabled :
    Move.host .monitor ∈ enabled (monitorNext 0x60000000 stRace) ∧
    Move.host .monitor ∉ enabled (monitorNext 0x10000000 stRace) := by decide

/-- The callback's commands: of the pass's agent under `shared`, of `callback` under `separate` (R162). -/
theorem witness_HostAgentStepsAreEnabled_contexts :
    let s := stPass [] callback3 callback3 (.await 3 0x00A1)
    let u := { s with params := { s.params with callbackContext := .separate } }
    Move.host .mainLoop ∈ enabled (present .mainLoop 0x60000000 s) ∧
    Move.host .callback ∉ enabled (present .callback 0x60000000 s) ∧
    Move.host .mainLoop ∉ enabled (present .mainLoop 0x60000000 u) ∧
    Move.host .callback ∈ enabled (present .callback 0x60000000 u) := by decide

theorem witness_UnitsAlwaysHaveAStep : stRace.tu ≠ .idle ∧ stRace.ds = .scan 7 := by decide

theorem witness_TickCompletesInEighteenSteps :
    let s := { stRace with plan := [.tickFlag 7] }
    nextMove s = some (.tickFlag 7) ∧ isNext (step s) = true ∧ s.tu ≠ .idle ∧ Move.tickFlag 7 ∈ tickMoves s ∧
    tickWork s = 17 := by decide

theorem witness_TickCompletesInEighteenSteps_other :
    let s := { stRace with plan := [.scan .live] }
    nextMove s = some (.scan .live) ∧ isNext (step s) = true ∧ s.tu ≠ .idle ∧
    Move.scan .live ∉ tickMoves s := by decide

theorem witness_StopsOnlyWithNoStepLeft :
    enabled State.reset = [] ∧ enabled (stPass [] callback3 callback3 (.await 0 0)) = [] := by decide

theorem witness_ComparatorLanesFollowTheTable :
    tps State.reset.params = 1000 ∧ (1000 : TickCount).toNat = tps State.reset.params := ⟨rfl, rfl⟩

theorem witness_TickBeginEffect :
    let s := stTick 999 [] .idle
    s.tu = .idle ∧ s.params.tickAtomic = false := by decide

theorem witness_TickBeginEffect_inv : (stTick 999 [] .idle).Inv := by
  show (999 : Nat) < _
  decide

theorem witness_TickAllEffect :
    let s := withPolicy .wrap true (stTick 999 [7] .idle)
    s.tu = .idle ∧ s.params.tickAtomic = true ∧ (s.tick + 1).toNat % interval s.params 0 = 0 ∧
    (withPolicy .wrap true (stTick 998 [7] .idle)).tick.toNat % interval s.params 7 ≠ 0 := by decide

theorem witness_TickIsHeldWhileOneRuns :
    stRace.tu ≠ .idle ∧ (getPort (monitorNext 0x10000000 stRace).ports .monitor).cmds = [0x10000000] ∧
    decode 0x10000000 = .ok .tick := by decide

theorem witness_TickFlagEffect :
    let s := { stRace with plan := [.tickFlag 7] }
    nextMove s = some (.tickFlag 7) ∧ s.tu = .run (setOf [0, 1, 2, 3, 4, 5, 6, 7]) noSlots := by decide

/-- Under `ASCENDING` only the least slot's TICK_FLAG is enabled (R93). -/
theorem witness_TickFlagEffect_ascending :
    let s := { stRace with params := { stRace.params with tickOrder := .ascending } }
    Move.tickFlag 0 ∈ enabled s ∧ Move.tickFlag 7 ∉ enabled s := by decide

theorem witness_TickOvfEffect :
    let s := { stTick 5 [7] (.run noSlots (setOf [7])) with plan := [.tickOvf 7] }
    nextMove s = some (.tickOvf 7) ∧ s.tu = .run noSlots (setOf [7]) := by decide

theorem witness_CounterIncrementFollowsPolicy : (0xFFFFFFFE : Count).toNat < 2 ^ 32 - 1 := by decide

theorem witness_TickEndEffect :
    nextMove (stTick 1000 [] (.run noSlots noSlots)) = some .tickEnd ∧
    (1000 : TickCount).toNat = tps State.reset.params := ⟨by decide, rfl⟩

theorem witness_SplitTickRefinesAtomicTick :
    let s := stTick 4 [7] .idle
    s.tu = .idle ∧ s.params.tickAtomic = false ∧
    (runTickMoves [.tickFlag 7, .tickOvf 7, .tickEnd] (tickBegin s)).map (fun t => (t.tu, t.tick)) =
      some (.idle, 5) := by decide

theorem witness_AccumulationLawOfTicks :
    let s := stTick 4 [7] .idle
    s.params.tickAtomic = false ∧ s.tu = .idle ∧ s.tick.toNat < tps s.params ∧
    (runWholeTicks [[.tickFlag 7, .tickOvf 7, .tickEnd], [.tickEnd]] s).isSome = true ∧
    (slotGet s.ovf 7).toNat + misses s 2 7 ≤ 2 ^ 32 - 1 ∧ misses s 2 7 = 1 := by decide

theorem witness_AccumulationLawOfTicks_inv : (stTick 4 [7] .idle).Inv := by show (4 : Nat) < _; decide

theorem witness_AccumulationLawOfTicks_atomic :
    ∃ s : State, s.params.tickAtomic = true ∧ s.tu = .idle ∧ s.Inv ∧ (runWholeTicks [[]] s).isSome = true :=
  ⟨withPolicy .wrap true (stTick 999 [7] .idle), by decide, by decide, by show (999 : Nat) < _; decide, by decide⟩

theorem witness_DispatchAcceptEffect : State.reset.ds = .idle := by decide

theorem witness_NestedDispatchIsRefused : stRace.ds ≠ .idle := by decide

theorem witness_ScanEffect :
    let s := { stRace with plan := [.scan .live] }
    s.ds = .scan (7 : Slot).castSucc ∧ slotGet s.due 7 = true ∧ nextMove s = some (.scan .live) := by decide

theorem witness_ScanEndEffect :
    nextMove (stPass [] callback3 callback3 (.scan 8)) = some .scanEnd := by decide

theorem witness_CbretEffect :
    ∃ (s : State) (c : Slot) (h : Handler), s.ds = .await c h := ⟨stPass [] callback3 callback3 (.await 7 0), 7, 0, rfl⟩

theorem witness_StrayCbretIsRefused :
    invokeOut State.reset = none ∧ invokeOut (stPass [] callback3 callback3 (.scan 8)) = none := by decide

theorem witness_InvokeStaysUntilCbret :
    let s := monitorNext 0x33000000 (stPass [] callback3 callback3 (.await 3 0x00A1))
    s.ds = .await 3 0x00A1 ∧ isNext (step s) = true := by decide

/-- Each clause at its boundary: no pass, cursor 7, the callback of slot 7, cursor 8. -/
theorem witness_PassServesSlotsInOrder :
    isNext (step (monitorNext 0x20000000 State.reset)) = true ∧
    isNext (step (stPass [7] callback3 callback3 (.scan (7 : Slot).castSucc))) = true ∧
    isNext (step (monitorNext 0x60000000 (stPass [] callback3 callback3 (.await 7 0)))) = true ∧
    isNext (step (stPass [] callback3 callback3 (.scan 8))) = true := by decide

theorem witness_PassServesSlotsInOrder_moves :
    let s := stPass [7] callback3 callback3 (.scan (7 : Slot).castSucc)
    s.ds ≠ .idle ∧ (nextOf (step s)).ds ≠ .idle ∧ (nextOf (step s)).ds ≠ s.ds := by decide

theorem witness_WholePassServesEveryDueSlot : (stPass [0, 3, 7] callback3 noCallback .idle).ds = .idle := by decide

theorem witness_OutOfRangeReadIsRefused : 8 ≤ 8 ∧ (Instr.rdovf 8 = .rdovf 8 ∨ Instr.rdovf 8 = .rddue 8) := by decide

theorem witness_OutOfRangeReadIsRefused_rddue :
    8 ≤ 15 ∧ (Instr.rddue 15 = .rdovf 15 ∨ Instr.rddue 15 = .rddue 15) := by decide

theorem witness_RegistrationAndReadsRepeat :
    ∀ i ∈ [Instr.reg 7 0xFFFF, .reg 8 1, .unreg 7, .rdovf 8, .rddue 7],
      isNext (exec i State.reset) = true ∧ isNext (exec i (nextOf (exec i State.reset))) = true := by decide

theorem witness_RefusalMarkIsNeverCleared :
    let s := monitorNext 0x10000000 { State.reset with refused := true }
    isNext (step s) = true ∧ s.refused = true := by decide

theorem witness_RefusedCommandChangesNoRegister :
    let s := monitorNext 0x60000000 State.reset
    isNext (step s) = true ∧ s.refused = false ∧ (nextOf (step s)).refused = true := by decide

/-- One command for each reason of R151, from a state with the mark set already. -/
theorem witness_RefusedCommandChangesNoRegister_each :
    let s := { stPass [] callback3 callback3 (.scan 8) with refused := true }
    ∀ p ∈ [((0x00000000 : Word), RefuseReason.reservedOpcode), (0x10000001, .reservedBits),
        (0x20000000, .dispatchBusy), (0x60000000, .cbretUnexpected), (0x48000000, .slotRange),
        (0x5F000000, .slotRange)],
      nextMove (monitorNext p.1 s) = some (.host .monitor) ∧
      (getPort (nextOf (step (monitorNext p.1 s))).ports .monitor).reply = .refused p.2 := by decide

theorem witness_TickCounterIsWrittenOnlyByTheTickUnit :
    let s := monitorNext 0x10000000 State.reset
    isNext (step s) = true ∧ (nextOf (step s)).tick ≠ s.tick := by decide

theorem witness_TickCounterIsWrittenOnlyByTheTickUnit_end :
    let s := stTick 1000 [] (.run noSlots noSlots)
    isNext (step s) = true ∧ (nextOf (step s)).tick ≠ s.tick := by decide

/-- A flag set by its TICK_FLAG, and a flag cleared by its SCAN, slot 7. -/
theorem witness_DueFlagWriters :
    let s := stTick 5 [] (.run (setOf [7]) noSlots)
    let u := stPass [7] callback3 callback3 (.scan 7)
    (isNext (step s) = true ∧ slotGet s.due 7 = false ∧ slotGet (nextOf (step s)).due 7 = true) ∧
    (isNext (step u) = true ∧ slotGet u.due 7 = true ∧ slotGet (nextOf (step u)).due 7 = false) := by decide

theorem witness_DueFlagWriters_inv :
    (stTick 5 [] (.run (setOf [7]) noSlots)).Inv ∧ (stPass [7] callback3 callback3 (.scan 7)).Inv := by
  refine ⟨?_, ?_⟩
  · show (1 : Nat) ≤ _ ∧ _ ∧ (∀ i, _ → _) ∧ ∀ i, _ → _
    decide
  · show (0 : Nat) < _
    decide

theorem witness_DueFlagWriters_atomic :
    let s := monitorNext 0x10000000 (withPolicy .wrap true (stTick 999 [] .idle))
    isNext (step s) = true ∧ slotGet s.due 0 = false ∧ slotGet (nextOf (step s)).due 0 = true := by decide

theorem witness_OverflowCounterWriters :
    let s := withPolicy .wrap false
      { stTick 5 [7] (.run noSlots (setOf [7])) with ovf := Vector.replicate 8 0xFFFFFFFF }
    isNext (step s) = true ∧ slotGet (nextOf (step s)).ovf 7 ≠ slotGet s.ovf 7 := by decide

theorem witness_OverflowCounterWriters_atomic :
    let s := monitorNext 0x10000000 (withPolicy .saturate true (stTick 4 [7] .idle))
    isNext (step s) = true ∧ slotGet (nextOf (step s)).ovf 7 ≠ slotGet s.ovf 7 := by decide

theorem witness_CallbackSlotWriters :
    let s := monitorNext 0x37800000 State.reset
    let u := monitorNext 0x33000000 (stPass [] callback3 callback3 .idle)
    (isNext (step s) = true ∧ slotGet (nextOf (step s)).cb 7 ≠ slotGet s.cb 7) ∧
    (isNext (step u) = true ∧ slotGet (nextOf (step u)).cb 3 ≠ slotGet u.cb 3) := by decide

theorem witness_SnapshotIsLoadedOnlyByDispatch :
    let s := monitorNext 0x20000000 (stPass [] callback3 noCallback .idle)
    isNext (step s) = true ∧ (nextOf (step s)).cbsnap ≠ s.cbsnap := by decide

theorem witness_ParametersNeverChange : isNext (step (monitorNext 0x10000000 State.reset)) = true := by decide

theorem witness_DispatchIgnoresTickAndCounters :
    isNext (exec .dispatch State.reset) = true ∧ isNext (exec .cbret stRace) = true := by decide

theorem witness_TickIgnoresCallbacksAndPass : isNext (exec .tick State.reset) = true := by decide

theorem witness_TickAndScanRaceBothWays :
    stRace.tu = .run (setOf [0, 1, 2, 3, 4, 5, 6, 7]) noSlots ∧
    slotGet (setOf [0, 1, 2, 3, 4, 5, 6, 7]) 7 = true ∧ slotGet noSlots 7 = false ∧
    orderAllows stRace.params.tickOrder (setOf [0, 1, 2, 3, 4, 5, 6, 7]) 7 = true ∧
    stRace.ds = .scan (7 : Slot).castSucc ∧ slotGet stRace.due 7 = true := by decide

theorem witness_CommandsAreAdmittedDuringAPass :
    let s := stPass [] callback3 callback3 (.await 7 0)
    s.ds ≠ .idle ∧ s.tu = .idle ∧ invokeOut s ≠ none ∧ 7 < 8 := by decide

theorem witness_CommandsAreAdmittedDuringAPass_step :
    let s := monitorNext 0x10000000 (stPass [] callback3 callback3 (.scan 8))
    s.ds ≠ .idle ∧ s.tu = .idle ∧ (getPort s.ports .monitor).cmds = [0x10000000] ∧
    decode 0x10000000 = .ok .tick ∧ mayPresent s .monitor = true ∧ nextMove s = some (.host .monitor) := by decide

/-- The pass's agent waits outside its callback and presents the callback's commands inside it (R162, `shared`). -/
theorem witness_CommandsAreAdmittedDuringAPass_callback :
    mayPresent (stPass [] callback3 callback3 (.scan 8)) .mainLoop = false ∧
    mayPresent (stPass [] callback3 callback3 (.await 7 0)) .mainLoop = true := by decide

end Sys2Proof.Machine
end

section
/-! PROOF. The statements of `00_scope.md`: the parameters (R7, R8) and a host agent's step as `exec` of its command (R12).
The general lemmas before each of them say what `runWord` and `step` do to a command and to the parameters. -/

namespace Sys2Proof.Machine

/-! ### No step writes a parameter (R7) -/

theorem exec_params {i : Instr} {s t : State} (h : exec i s = .next t) : t.params = s.params := by
  rcases exec_cases h with
    ⟨-, -, rfl⟩ | ⟨-, -, -, rfl⟩ | ⟨-, -, -, rfl⟩ | ⟨-, -, rfl⟩ | ⟨-, -, rfl⟩ | ⟨id, x, -, rfl⟩ |
      ⟨id, f, -, rfl⟩ | ⟨c, r, -, -, rfl⟩ | ⟨-, -, rfl⟩
  case inl => rfl
  all_goals simp only [tickAll_params, tickBegin_params, dispatchAccept_params, refuse_params,
    writeCallback_params, respondSlot_params, setDs_params, retire_params]

theorem runWord_params {a : HostAgent} {w : Word} {s t : State} (h : runWord a w s = .next t) :
    t.params = s.params := by
  rcases runWord_cases h with ⟨e, -, rfl⟩ | ⟨i, -, hexec⟩
  · simp
  · simpa using exec_params hexec

theorem step_params {s t : State} (h : step s = .next t) : t.params = s.params := by
  rcases step_cases h with
    ⟨a, w, rest, -, -, -, -, hrun⟩ | ⟨i, flagq, ovfq, -, -, -, -, rfl⟩ | ⟨i, flagq, ovfq, -, -, -, rfl⟩ |
      ⟨flagq, ovfq, -, -, -, -, rfl⟩ | ⟨c, v, -, -, -, rfl⟩ | ⟨-, -, rfl⟩
  case inl => simpa using runWord_params hrun
  all_goals simp

/-- Settles O55, by the inversions of `step`, `runWord` and `exec`. -/
theorem parametersNeverChange : Obligations.ParametersNeverChange := by
  unfold Obligations.ParametersNeverChange
  exact fun _ _ => step_params

/-! ### A host agent's step (R12, R76, R162) -/

/-- The step of a host agent is the arrival of the word at the head of its port. -/
theorem step_host {s : State} {a : HostAgent} {w : Word} {rest : List Word}
    (hnext : nextMove s = some (.host a)) (hcmds : (getPort s.ports a).cmds = w :: rest) :
    step s = runWord a w (usePlan s) := by
  simp [step, hnext, runMove, hcmds]

theorem runWord_of_decode_ok {w : Word} {i : Instr} (h : decode w = .ok i) (a : HostAgent) (s : State) :
    runWord a w s = exec i (s.setIssuer a) := by
  simp [runWord, h]

/-- Settles O14: the presented word arrives, and one that decodes is executed. -/
theorem stepRunsThePresentedCommand : Obligations.StepRunsThePresentedCommand := by
  unfold Obligations.StepRunsThePresentedCommand
  intro s a w rest i hnext hcmds hdecode
  rw [step_host hnext hcmds, runWord_of_decode_ok hdecode]

/-! ### `TPS` and the interval table (R8) -/

theorem freq_dvd_200 (i : Slot) : freq i ∣ 200 := by
  revert i
  decide

/-- R8: `INTERVAL[i]` = `TPS` / `FREQ[i]` with no remainder, since every frequency divides 200. -/
theorem interval_mul_freq (p : Params) (i : Slot) : interval p i * freq i = tps p :=
  Nat.div_mul_cancel ((freq_dvd_200 i).mul_right _)

/-- Settles O23, from the facts about `tps` and `interval` one by one. -/
theorem intervalsDivideTicksPerSecond : Obligations.IntervalsDivideTicksPerSecond := by
  unfold Obligations.IntervalsDivideTicksPerSecond
  intro p i
  have htps : tps p < 2 ^ 10 := (tps_le p).trans_lt (by decide)
  exact ⟨tps_pos p, Nat.dvd_mul_right _ _, htps, interval_mul_freq p i, interval_pos p i,
    interval_dvd_tps p i⟩

end Sys2Proof.Machine
end

section
/-! SUPPORT. What one step does to the registers of R20: the inversions of `step`, `runWord` and `exec` put together, and
the value of each register that a step of a unit writes. -/

namespace Sys2Proof.Machine

/-! ### The kinds of step, by their effect on the registers (R28, R155) -/

/-- What a step from `s` to `t` does to the registers: one constructor for each atomic step that writes one (R28), with its
guard. A command that is refused, held or answered from a register writes none of them. -/
inductive StepEffect (s : State) : State → Prop
  | sameHardware {t : State} (h : SameHardware s t) : StepEffect s t
  | tickAll (a : HostAgent) (hperf : Performs s a .tick) (htu : s.tu = .idle)
      (hatomic : s.params.tickAtomic = true) : StepEffect s (tickAll ((usePlan s).setIssuer a))
  | tickBegin (a : HostAgent) (hperf : Performs s a .tick) (htu : s.tu = .idle) :
      StepEffect s (tickBegin ((usePlan s).setIssuer a))
  | tickFlag (i : Slot) (flagq ovfq : SlotSet) (hnext : nextMove s = some (.tickFlag i))
      (htu : s.tu = .run flagq ovfq) (hi : slotGet flagq i = true) : StepEffect s (tickFlag i (usePlan s))
  | tickOvf (i : Slot) (flagq ovfq : SlotSet) (hnext : nextMove s = some (.tickOvf i))
      (htu : s.tu = .run flagq ovfq) : StepEffect s (tickOvf i (usePlan s))
  | tickEnd (flagq ovfq : SlotSet) (hnext : nextMove s = some .tickEnd) (htu : s.tu = .run flagq ovfq) :
      StepEffect s (tickEnd (usePlan s))
  | dispatchAccept (a : HostAgent) (hperf : Performs s a .dispatch) (hds : s.ds = .idle) :
      StepEffect s (dispatchAccept ((usePlan s).setIssuer a))
  | scan (c : Slot) (v : View) (hnext : nextMove s = some (.scan v)) (hds : s.ds = .scan c.castSucc) :
      StepEffect s (scan v (usePlan s))
  | scanEnd (hds : s.ds = .scan 8) : StepEffect s (scanEnd (usePlan s))
  | cbret (a : HostAgent) (c : Slot) (r : Handler) (hperf : Performs s a .cbret) (hds : s.ds = .await c r) :
      StepEffect s ((retire .done ((usePlan s).setIssuer a)).setDs (.scan c.succ))
  | reg (a : HostAgent) (id : Nat) (r : Handler) (hperf : Performs s a (.reg id r)) :
      StepEffect s (writeCallback id (some r) ((usePlan s).setIssuer a))
  | unreg (a : HostAgent) (id : Nat) (hperf : Performs s a (.unreg id)) :
      StepEffect s (writeCallback id none ((usePlan s).setIssuer a))

theorem refuse_sameHardware (why : RefuseReason) (s : State) : SameHardware s (refuse why s) :=
  ⟨rfl, rfl, rfl, rfl, rfl, rfl, rfl⟩

theorem respondSlot_sameHardware (id : Nat) (f : Slot → Word) (s : State) :
    SameHardware s (respondSlot id f s) := by
  simp [SameHardware]

/-- The effect of a host agent's step whose word spells a command. -/
theorem exec_effect {s t : State} {a : HostAgent} {i : Instr} (hperf : Performs s a i)
    (h : exec i ((usePlan s).setIssuer a) = .next t) : StepEffect s t := by
  rcases exec_cases h with
    ⟨-, -, rfl⟩ | ⟨rfl, htu, hatomic, rfl⟩ | ⟨rfl, htu, -, rfl⟩ | ⟨rfl, hds, rfl⟩ | ⟨-, -, rfl⟩ |
      ⟨id, x, ⟨r, rfl, rfl⟩ | ⟨rfl, rfl⟩, rfl⟩ | ⟨id, f, -, rfl⟩ | ⟨c, r, rfl, hds, rfl⟩ | ⟨-, -, rfl⟩
  · exact .sameHardware ⟨rfl, rfl, rfl, rfl, rfl, rfl, rfl⟩
  · exact .tickAll a hperf htu hatomic
  · exact .tickBegin a hperf htu
  · exact .dispatchAccept a hperf hds
  · exact .sameHardware (refuse_sameHardware _ _)
  · exact .reg a id r hperf
  · exact .unreg a id hperf
  · exact .sameHardware (respondSlot_sameHardware _ _ _)
  · exact .cbret a c r hperf hds
  · exact .sameHardware (refuse_sameHardware _ _)

/-- Every step has one of the effects of `StepEffect`. -/
theorem step_effect {s t : State} (h : step s = .next t) : StepEffect s t := by
  rcases step_cases h with
    ⟨a, w, rest, hnext, hcmds, -, -, hrun⟩ | ⟨i, flagq, ovfq, hnext, htu, hi, -, rfl⟩ |
      ⟨i, flagq, ovfq, hnext, htu, -, rfl⟩ | ⟨flagq, ovfq, hnext, htu, -, -, rfl⟩ |
      ⟨c, v, hnext, hds, -, rfl⟩ | ⟨-, hds, rfl⟩
  · rcases runWord_cases hrun with ⟨e, -, rfl⟩ | ⟨i, hdecode, hexec⟩
    · exact .sameHardware (refuse_sameHardware _ _)
    · exact exec_effect ⟨hnext, w, rest, hcmds, hdecode⟩ hexec
  · exact .tickFlag i flagq ovfq hnext htu hi
  · exact .tickOvf i flagq ovfq hnext htu
  · exact .tickEnd flagq ovfq hnext htu
  · exact .scan c v hnext hds
  · exact .scanEnd hds

/-! ### The registers a step of a unit writes -/

/-- An entry after the write of one entry (R54): as it was, or the written one. -/
theorem slotGet_slotSet_cases {α : Type} (v : PerSlot α) (i j : Slot) (x : α) :
    slotGet (slotSet v i x) j = slotGet v j ∨ (i = j ∧ slotGet (slotSet v i x) j = x) := by
  by_cases hij : i = j
  · exact .inr ⟨hij, by simp [hij]⟩
  · exact .inl (slotGet_slotSet_other v x hij)

theorem tickFlag_due (i : Slot) {s : State} {flagq ovfq : SlotSet} (h : s.tu = .run flagq ovfq) :
    (tickFlag i s).due = slotSet s.due i true := by
  simp [tickFlag_run i h]

theorem tickFlag_tu (i : Slot) {s : State} {flagq ovfq : SlotSet} (h : s.tu = .run flagq ovfq) :
    (tickFlag i s).tu =
      .run (slotSet flagq i false) (if slotGet s.due i then slotSet ovfq i true else ovfq) := by
  simp [tickFlag_run i h]

theorem tickOvf_ovf (i : Slot) {s : State} {flagq ovfq : SlotSet} (h : s.tu = .run flagq ovfq) :
    (tickOvf i s).ovf = slotSet s.ovf i (inc s.params.ovfPolicy (slotGet s.ovf i)) := by
  simp [tickOvf_run i h]

theorem tickOvf_tu (i : Slot) {s : State} {flagq ovfq : SlotSet} (h : s.tu = .run flagq ovfq) :
    (tickOvf i s).tu = .run flagq (slotSet ovfq i false) := by
  simp [tickOvf_run i h]

theorem scan_due (v : View) {s : State} {c : Slot} (h : s.ds = .scan c.castSucc) :
    (scan v s).due = slotSet s.due c false := by
  obtain ⟨d, hscan, -⟩ := scan_cases v h
  simp [hscan]

/-- A SCAN moves the cursor on or presents an INVOKE for the cursor's slot (R112). -/
theorem scan_ds (v : View) {s : State} {c : Slot} (h : s.ds = .scan c.castSucc) :
    (scan v s).ds = .scan c.succ ∨ ∃ r, (scan v s).ds = .await c r := by
  obtain ⟨d, hscan, rfl | ⟨r, -, -, rfl⟩⟩ := scan_cases v h
  · exact .inl (by simp [hscan])
  · exact .inr ⟨r, by simp [hscan]⟩

/-- Where REG or UNREG changed a slot's entry, its identifier is that slot's (R130, R131, R134). -/
theorem writeCallback_cb_changed {id : Nat} {x : Callback} {s : State} {i : Slot}
    (h : slotGet (writeCallback id x s).cb i ≠ slotGet s.cb i) :
    id = i.val ∧ slotGet (writeCallback id x s).cb i = x := by
  rcases Nat.lt_or_ge id 8 with hid | hid
  · have hcb : (writeCallback id x s).cb = slotSet s.cb ⟨id, hid⟩ x :=
      congrArg State.cb (writeCallback_slot ⟨id, hid⟩ x s)
    rw [hcb] at h ⊢
    rcases slotGet_slotSet_cases s.cb ⟨id, hid⟩ i x with hsame | ⟨hi, hx⟩
    · exact absurd hsame h
    · exact ⟨congrArg Fin.val hi, hx⟩
  · simp [writeCallback_out x s hid] at h

end Sys2Proof.Machine
end

section
/-! PROOF. The invariant of R39 (a) to (c): at reset (R171), and kept by every step. -/

namespace Sys2Proof.Machine

/-! ### The invariant, by the state of the tick unit -/

theorem inv_iff_of_idle {s : State} (h : s.tu = .idle) : s.Inv ↔ s.tick.toNat < tps s.params := by
  simp [State.Inv, h]

theorem inv_iff_of_run {s : State} {flagq ovfq : SlotSet} (h : s.tu = .run flagq ovfq) :
    s.Inv ↔ 1 ≤ s.tick.toNat ∧ s.tick.toNat ≤ tps s.params ∧
      (∀ i, slotGet flagq i = true → lane s.params s.tick i = true) ∧
      (∀ i, slotGet ovfq i = true → lane s.params s.tick i = true ∧ slotGet flagq i = false) := by
  simp [State.Inv, h]

/-- The invariant speaks of the tick unit, the tick counter and the parameters only. -/
theorem inv_of_same_tick_tu {s t : State} (htick : t.tick = s.tick) (htu : t.tu = s.tu)
    (hparams : t.params = s.params) (hinv : s.Inv) : t.Inv := by
  unfold State.Inv at hinv ⊢
  rwa [htick, htu, hparams]

/-- Settles O2: no TICK is in progress at reset, and the counter is 0. -/
theorem resetMeetsInvariant : Obligations.ResetMeetsInvariant := by
  unfold Obligations.ResetMeetsInvariant
  exact (inv_iff_of_idle rfl).mpr (tps_pos _)

/-! ### The counter (R91, R96) -/

/-- R91: between TICKs the counter has room for one more, so that it does not wrap in its 10 bits. -/
theorem tick_succ_toNat {t : TickCount} {p : Params} (h : t.toNat < tps p) :
    (t + 1).toNat = t.toNat + 1 := by
  have := tps_le p
  bv_omega

/-- R96: the rollover brings a count of at most `TPS` below `TPS`. -/
theorem rollover_lt {t : TickCount} {p : Params} (h : t.toNat ≤ tps p) :
    (rollover p t).toNat < tps p := by
  unfold rollover
  split
  · exact tps_pos p
  · rename_i hne
    exact lt_of_le_of_ne h (by simpa using hne)

/-! ### Each step of a TICK keeps it -/

theorem inv_tickAll {s : State} (htu : s.tu = .idle) (hinv : s.Inv) : (tickAll s).Inv := by
  have htick := (inv_iff_of_idle htu).mp hinv
  have hle : (s.tick + 1).toNat ≤ tps s.params := by
    rw [tick_succ_toNat htick]
    exact htick
  exact (inv_iff_of_idle (s := tickAll s) htu).mpr (rollover_lt hle)

theorem inv_tickBegin {s : State} (htu : s.tu = .idle) (hinv : s.Inv) : (tickBegin s).Inv := by
  have htick := (inv_iff_of_idle htu).mp hinv
  have hsucc : (tickBegin s).tick.toNat = s.tick.toNat + 1 := tick_succ_toNat htick
  refine (inv_iff_of_run rfl).mpr ⟨?_, ?_, by simp, by simp⟩
  · exact hsucc ▸ Nat.le_add_left 1 _
  · exact hsucc ▸ htick

/-- A slot whose TICK_FLAG has run leaves the one set and may enter the other, as one this TICK activates. -/
theorem inv_tickFlag {s : State} {i : Slot} {flagq ovfq : SlotSet} (htu : s.tu = .run flagq ovfq)
    (hi : slotGet flagq i = true) (hinv : s.Inv) : (tickFlag i s).Inv := by
  obtain ⟨hpos, hle, hflag, hovf⟩ := (inv_iff_of_run htu).mp hinv
  refine (inv_iff_of_run (tickFlag_tu i htu)).mpr ⟨by simpa, by simpa, fun j hj => ?_, fun j hj => ?_⟩
  · by_cases hij : i = j
    · simp [hij] at hj
    · simpa using hflag j (by simpa [slotGet_slotSet_other _ _ hij] using hj)
  · by_cases hij : i = j
    · subst hij
      simpa using hflag i hi
    · have hj' : slotGet ovfq j = true := by
        split at hj
        · simpa [slotGet_slotSet_other _ _ hij] using hj
        · exact hj
      simpa [slotGet_slotSet_other _ _ hij] using hovf j hj'

theorem inv_tickOvf {s : State} {i : Slot} {flagq ovfq : SlotSet} (htu : s.tu = .run flagq ovfq)
    (hinv : s.Inv) : (tickOvf i s).Inv := by
  obtain ⟨hpos, hle, hflag, hovf⟩ := (inv_iff_of_run htu).mp hinv
  refine (inv_iff_of_run (tickOvf_tu i htu)).mpr ⟨by simpa, by simpa, by simpa, fun j hj => ?_⟩
  by_cases hij : i = j
  · simp [hij] at hj
  · simpa using hovf j (by simpa [slotGet_slotSet_other _ _ hij] using hj)

theorem inv_tickEnd {s : State} {flagq ovfq : SlotSet} (htu : s.tu = .run flagq ovfq) (hinv : s.Inv) :
    (tickEnd s).Inv := by
  obtain ⟨-, hle, -, -⟩ := (inv_iff_of_run htu).mp hinv
  exact (inv_iff_of_idle rfl).mpr (rollover_lt hle)

/-- Settles O3: the steps of a TICK keep the invariant one by one, and every other step leaves the tick unit, the tick
counter and the parameters as they were. -/
theorem everyStepKeepsInvariant : Obligations.EveryStepKeepsInvariant := by
  unfold Obligations.EveryStepKeepsInvariant
  intro s t hinv hstep
  have hplan : (usePlan s).Inv := inv_of_same_tick_tu rfl rfl rfl hinv
  have hissuer (a : HostAgent) : ((usePlan s).setIssuer a).Inv := inv_of_same_tick_tu rfl rfl rfl hinv
  cases step_effect hstep with
  | sameHardware h =>
    obtain ⟨htick, -, -, -, htu, -, -⟩ := h
    exact inv_of_same_tick_tu htick htu (step_params hstep) hinv
  | tickAll a _ htu _ => exact inv_tickAll htu (hissuer a)
  | tickBegin a _ htu => exact inv_tickBegin htu (hissuer a)
  | tickFlag i flagq ovfq _ htu hi => exact inv_tickFlag htu hi hplan
  | tickOvf i flagq ovfq _ htu => exact inv_tickOvf htu hplan
  | tickEnd flagq ovfq _ htu => exact inv_tickEnd htu hplan
  | dispatchAccept | scan | scanEnd | cbret | reg | unreg =>
    exact inv_of_same_tick_tu (by simp) (by simp) (by simp) hinv

end Sys2Proof.Machine
end

section
/-! PROOF. Who writes which register (R24 to R28, R37): for each register, the steps of `StepEffect` that can change it. -/

namespace Sys2Proof.Machine

/-- Settles O50: every step but TICK_ALL, TICK_BEGIN and TICK_END leaves the tick counter. -/
theorem tickCounterIsWrittenOnlyByTheTickUnit : Obligations.TickCounterIsWrittenOnlyByTheTickUnit := by
  unfold Obligations.TickCounterIsWrittenOnlyByTheTickUnit
  intro s t hstep hne
  cases step_effect hstep with
  | tickAll a hperf => exact .inr ⟨a, hperf⟩
  | tickBegin a hperf => exact .inr ⟨a, hperf⟩
  | tickEnd _ _ hnext => exact .inl hnext
  | sameHardware h =>
    obtain ⟨htick, -⟩ := h
    exact absurd htick hne
  | tickFlag | tickOvf | dispatchAccept | scan | scanEnd | cbret | reg | unreg => simp at hne

/-- What a step can do to the due flag of slot `i`: nothing, TICK_ALL's swap, TICK_FLAG(i) of a pending slot, or SCAN(i). -/
theorem step_due_cases {s t : State} (h : step s = .next t) (i : Slot) :
    slotGet t.due i = slotGet s.due i ∨
    (slotGet t.due i = (lane s.params (s.tick + 1) i || slotGet s.due i) ∧
      s.params.tickAtomic = true ∧ ∃ a, Performs s a .tick) ∨
    (slotGet t.due i = true ∧ nextMove s = some (.tickFlag i) ∧
      ∃ flagq ovfq, s.tu = .run flagq ovfq ∧ slotGet flagq i = true) ∨
    (slotGet t.due i = false ∧ s.ds = .scan i.castSucc ∧ ∃ v, nextMove s = some (.scan v)) := by
  cases step_effect h with
  | tickAll a hperf _ hatomic => exact .inr (.inl ⟨slotGet_dueAfter s _ i, hatomic, a, hperf⟩)
  | tickFlag j flagq ovfq hnext htu hj =>
    rw [tickFlag_due (s := usePlan s) j htu]
    rcases slotGet_slotSet_cases s.due j i true with hsame | ⟨rfl, hset⟩
    · exact .inl hsame
    · exact .inr (.inr (.inl ⟨hset, hnext, flagq, ovfq, htu, hj⟩))
  | scan c v hnext hds =>
    rw [scan_due (s := usePlan s) v hds]
    rcases slotGet_slotSet_cases s.due c i false with hsame | ⟨rfl, hclear⟩
    · exact .inl hsame
    · exact .inr (.inr (.inr ⟨hclear, hds, v, hnext⟩))
  | sameHardware h =>
    obtain ⟨-, hdue, -⟩ := h
    exact .inl (by rw [hdue])
  | tickBegin | tickOvf | tickEnd | dispatchAccept | scanEnd | cbret | reg | unreg => exact .inl (by simp)

/-- Settles O51: TICK_ALL sets the flags of the activated slots, TICK_FLAG(i) the flag of a pending slot, whose lane the
invariant gives, and SCAN(i) clears it. -/
theorem dueFlagWriters : Obligations.DueFlagWriters := by
  unfold Obligations.DueFlagWriters
  intro s t i hinv hstep
  rcases step_due_cases hstep i with hdue | ⟨hdue, hatomic, hperf⟩ | ⟨hdue, hnext, flagq, ovfq, htu, hi⟩ |
    ⟨hdue, hds, hnext⟩
  · exact ⟨by simp +contextual [hdue], by simp +contextual [hdue]⟩
  · refine ⟨fun hclear hset => .inr ⟨hatomic, ?_, hperf⟩, fun hset hclear => ?_⟩
    · simpa only [hdue, hclear, Bool.or_false] using hset
    · simp [hdue, hset] at hclear
  · obtain ⟨-, -, hflag, -⟩ := (inv_iff_of_run htu).mp hinv
    exact ⟨fun _ _ => .inl ⟨hnext, hflag i hi⟩, by simp [hdue]⟩
  · exact ⟨by simp [hdue], fun _ _ => ⟨hds, hnext⟩⟩

/-- Settles O52: TICK_OVF writes its slot's counter, TICK_ALL those of the activated slots found due, each by `inc`. -/
theorem overflowCounterWriters : Obligations.OverflowCounterWriters := by
  unfold Obligations.OverflowCounterWriters
  intro s t i hstep hne
  cases step_effect hstep with
  | tickAll a hperf _ hatomic =>
    have hovf : slotGet (tickAll ((usePlan s).setIssuer a)).ovf i = _ := slotGet_ovfAfter s (s.tick + 1) i
    rw [hovf] at hne ⊢
    split at hne
    · rename_i hmiss
      obtain ⟨hlane, hdue⟩ := Bool.and_eq_true_iff.mp hmiss
      exact ⟨if_pos hmiss, .inr ⟨hatomic, hdue, hlane, a, hperf⟩⟩
    · exact absurd rfl hne
  | tickOvf j flagq ovfq hnext htu =>
    rw [tickOvf_ovf (s := usePlan s) j htu] at hne ⊢
    rcases slotGet_slotSet_cases s.ovf j i _ with hsame | ⟨rfl, hinc⟩
    · exact absurd hsame hne
    · exact ⟨hinc, .inl hnext⟩
  | sameHardware h =>
    obtain ⟨-, -, hovf, -⟩ := h
    simp [hovf] at hne
  | tickBegin | tickFlag | tickEnd | dispatchAccept | scan | scanEnd | cbret | reg | unreg => simp at hne

/-- Settles O53: REG and UNREG are the only steps that write `cb`, and each writes its own slot. -/
theorem callbackSlotWriters : Obligations.CallbackSlotWriters := by
  unfold Obligations.CallbackSlotWriters
  intro s t i hstep hne
  cases step_effect hstep with
  | reg a id r hperf =>
    obtain ⟨rfl, hcb⟩ := writeCallback_cb_changed hne
    exact .inl ⟨a, r, hperf, hcb⟩
  | unreg a id hperf =>
    obtain ⟨rfl, hcb⟩ := writeCallback_cb_changed hne
    exact .inr ⟨a, hperf, hcb⟩
  | sameHardware h =>
    obtain ⟨-, -, -, hcb, -⟩ := h
    simp [hcb] at hne
  | tickAll | tickBegin | tickFlag | tickOvf | tickEnd | dispatchAccept | scan | scanEnd | cbret =>
    simp at hne

/-- Settles O54: DISPATCH_ACCEPT is the only step that writes `cbsnap`. -/
theorem snapshotIsLoadedOnlyByDispatch : Obligations.SnapshotIsLoadedOnlyByDispatch := by
  unfold Obligations.SnapshotIsLoadedOnlyByDispatch
  intro s t hstep hne
  cases step_effect hstep with
  | dispatchAccept a hperf hds => exact ⟨rfl, hds, rfl, a, hperf⟩
  | sameHardware h =>
    obtain ⟨-, -, -, -, -, -, hcbsnap⟩ := h
    exact absurd hcbsnap hne
  | tickAll | tickBegin | tickFlag | tickOvf | tickEnd | scan | scanEnd | cbret | reg | unreg => simp at hne

end Sys2Proof.Machine
end

section
/-! PROOF. The course of a pass (R29, R117) and the comparator's table (R22, R92). -/

namespace Sys2Proof.Machine

/-! ### The course of a pass -/

/-- What a step can do to the sequencer (R36): start a pass, serve the cursor's slot, end its callback, end the pass. -/
theorem step_ds_cases {s t : State} (h : step s = .next t) :
    t.ds = s.ds ∨
    (s.ds = .idle ∧ t.ds = .scan 0 ∧ ∃ a, Performs s a .dispatch) ∨
    (∃ c, s.ds = .scan c.castSucc ∧ (t.ds = .scan c.succ ∨ ∃ r, t.ds = .await c r)) ∨
    (∃ c r, s.ds = .await c r ∧ t.ds = .scan c.succ ∧ ∃ a, Performs s a .cbret) ∨
    (s.ds = .scan 8 ∧ t.ds = .idle) := by
  cases step_effect h with
  | dispatchAccept a hperf hds => exact .inr (.inl ⟨hds, rfl, a, hperf⟩)
  | scan c v _ hds => exact .inr (.inr (.inl ⟨c, hds, scan_ds v hds⟩))
  | cbret a c r hperf hds => exact .inr (.inr (.inr (.inl ⟨c, r, hds, rfl, a, hperf⟩)))
  | scanEnd hds => exact .inr (.inr (.inr (.inr ⟨hds, rfl⟩)))
  | sameHardware h =>
    obtain ⟨-, -, -, -, -, hds, -⟩ := h
    exact .inl hds
  | tickAll | tickBegin | tickFlag | tickOvf | tickEnd | reg | unreg => exact .inl (by simp)

/-- A slot's cursor is not the cursor 8 at which a pass ends (R29). -/
theorem castSucc_ne_eight (c : Slot) : c.castSucc ≠ 8 :=
  Fin.castSucc_ne_last c

/-- Settles O40: each clause is read off the one change of the sequencer that its state admits. -/
theorem passServesSlotsInOrder : Obligations.PassServesSlotsInOrder := by
  unfold Obligations.PassServesSlotsInOrder
  intro s t hstep
  rcases step_ds_cases hstep with hds | ⟨hds, ht, hperf⟩ | ⟨c, hds, ht⟩ | ⟨c, r, hds, ht, -⟩ | ⟨hds, ht⟩
  · exact ⟨fun hidle => .inl (hds.trans hidle), fun _ _ => .inl hds, fun _ _ _ => .inl hds, fun _ => .inl hds,
      fun _ _ hmoved => absurd hds hmoved⟩
  · simp [hds, ht, hperf]
  · refine ⟨by simp [hds], fun c' hc' => ?_, by simp [hds], ?_, fun _ _ _ => ?_⟩
    · obtain rfl : c = c' := by simpa [hds] using hc'
      exact .inr ht
    · simp [hds, castSucc_ne_eight]
    · rcases ht with ht | ⟨r, ht⟩ <;> simp [hds, ht, passPosition]
  · refine ⟨by simp [hds], by simp [hds], fun c' r' hc' => ?_, by simp [hds], fun _ _ _ => ?_⟩
    · obtain ⟨rfl, -⟩ : c = c' ∧ r = r' := by simpa [hds] using hc'
      exact .inr ht
    · simp [hds, ht, passPosition]
      omega
  · refine ⟨by simp [hds], fun c' hc' => ?_, by simp [hds], fun _ => .inr ht, by simp [ht]⟩
    simp [hds, (castSucc_ne_eight c').symm] at hc'

/-! ### The comparator's table -/

/-- A slot is activated `FREQ[i]` times in `TPS` ticks (R22). -/
theorem tps_div_interval (p : Params) (i : Slot) : tps p / interval p i = freq i :=
  Nat.div_eq_of_eq_mul_right (interval_pos p i) (interval_mul_freq p i).symm

/-- `INTERVAL[i]` at `TPS` = 1000 (R22). -/
theorem slotTab_interval_of_tps {p : Params} (h : tps p = 1000) :
    slotTab (interval p) = #v[1000, 500, 200, 100, 50, 20, 10, 5] := by
  have hinterval : interval p = fun i => 1000 / freq i := by
    funext i
    rw [interval, h]
  rw [hinterval]
  decide

/-- Settles O22: the table of intervals, whose quotients of `TPS` are the frequencies, each of which divides `TPS`. -/
theorem comparatorLanesFollowTheTable : Obligations.ComparatorLanesFollowTheTable := by
  unfold Obligations.ComparatorLanesFollowTheTable
  refine ⟨fun p h => ⟨slotTab_interval_of_tps h, ?_⟩, lane_iff, fun p t i h => ?_⟩
  · simp only [tps_div_interval]
    decide
  · rw [lane_iff, h]
    exact Nat.mod_eq_zero_of_dvd (interval_dvd_tps p i)

end Sys2Proof.Machine
end

section
/-! PROOF. The serialisation of a command word as bytes (R51, R52). -/

namespace Sys2Proof.Machine

/-- The bytes of a word, put together most significant first, are the word. -/
theorem wordBytes_append (w : Word) :
    (w.extractLsb' 24 8 ++ w.extractLsb' 16 8 ++ w.extractLsb' 8 8 ++ w.extractLsb' 0 8 : Word) = w := by
  rw [BitVec.extractLsb'_append_extractLsb'_eq_extractLsb' (by decide : 24 = 16 + 8),
    BitVec.extractLsb'_append_extractLsb'_eq_extractLsb' (by decide : 16 = 8 + 8),
    BitVec.extractLsb'_append_extractLsb'_eq_extractLsb' (by decide : 8 = 0 + 8)]
  exact BitVec.extractLsb'_eq_self

theorem decodeBytes_wordBytes (w : Word) (rest : List Byte) :
    decodeBytes (wordBytes w ++ rest) = some (decode w, rest) :=
  congrArg (fun v => some (decode v, rest)) (wordBytes_append w)

/-- R52: "The block accepts no partial words". -/
theorem decodeBytes_eq_none_iff (bs : List Byte) : decodeBytes bs = none ↔ bs.length < 4 := by
  match bs with
  | [] | [_] | [_, _] | [_, _, _] => simp [decodeBytes]
  | _ :: _ :: _ :: _ :: _ => simp [decodeBytes]

/-- Settles O10: the four bytes put together are the word, and shorter lists are the decoder's other case. -/
theorem serialisedWordDecodesAsTheWord : Obligations.SerialisedWordDecodesAsTheWord := by
  unfold Obligations.SerialisedWordDecodesAsTheWord
  exact ⟨decodeBytes_wordBytes, decodeBytes_eq_none_iff⟩

end Sys2Proof.Machine
end

section
/-! PROOF. Forward progress (R64): the tick unit and the sequencer always have a step, but in `D_AWAIT`, and each step of
the tick unit brings its TICK nearer to its end. -/

namespace Sys2Proof.Machine

/-! ### The enabled steps of the tick unit, by their guards (R93, R94, R96) -/

section
variable {s : State} {flagq ovfq : SlotSet} (htu : s.tu = .run flagq ovfq)
include htu

theorem tickFlag_mem_tickMoves {i : Slot} (hi : slotGet flagq i = true)
    (horder : orderAllows s.params.tickOrder flagq i = true) : .tickFlag i ∈ tickMoves s := by
  simp [tickMoves, htu, flagMoves, hi, horder]

theorem tickOvf_mem_tickMoves {i : Slot} (hi : slotGet ovfq i = true) : .tickOvf i ∈ tickMoves s := by
  simp [tickMoves, htu, ovfMoves, hi]

theorem tickEnd_mem_tickMoves (hflag : isEmptySet flagq = true) (hovf : isEmptySet ovfq = true) :
    .tickEnd ∈ tickMoves s := by
  simp [tickMoves, htu, endMoves, hflag, hovf]

end

/-- Either TICK_ORDER allows the least pending slot's TICK_FLAG (R93). -/
theorem orderAllows_leastSlot (order : TickOrder) {flagq : SlotSet} {i : Slot} (h : leastSlot flagq = some i) :
    orderAllows order flagq i = true := by
  cases order <;> simp [orderAllows, h]

/-- The least slot of `flagq` is next, else one of `ovfq`, else TICK_END. -/
theorem exists_mem_tickMoves {s : State} (h : s.tu ≠ .idle) : ∃ m, m ∈ tickMoves s := by
  cases htu : s.tu with
  | idle => exact absurd htu h
  | run flagq ovfq =>
    cases hflag : isEmptySet flagq with
    | false =>
      obtain ⟨i, hi⟩ := exists_leastSlot hflag
      obtain ⟨hmem, -⟩ := (leastSlot_eq_some_iff flagq i).mp hi
      exact ⟨_, tickFlag_mem_tickMoves htu hmem (orderAllows_leastSlot _ hi)⟩
    | true =>
      cases hovf : isEmptySet ovfq with
      | false =>
        obtain ⟨i, hi⟩ := exists_leastSlot hovf
        obtain ⟨hmem, -⟩ := (leastSlot_eq_some_iff ovfq i).mp hi
        exact ⟨_, tickOvf_mem_tickMoves htu hmem⟩
      | true => exact ⟨_, tickEnd_mem_tickMoves htu hflag hovf⟩

/-! ### The enabled steps of the sequencer (R112, R113) -/

/-- Every REG_VISIBILITY admits a view. -/
theorem exists_mem_views (s : State) (c : Slot) : ∃ v, v ∈ views s c := by
  unfold views
  split
  · exact ⟨.live, by simp⟩
  · exact ⟨.snapshot, by simp⟩
  · exact ⟨.live, by split <;> simp⟩

/-- A SCAN of the cursor's slot is next, else SCAN_END. -/
theorem exists_mem_seqMoves {s : State} {cur : Fin 9} (hds : s.ds = .scan cur) : ∃ m, m ∈ seqMoves s := by
  cases hcur : cursorSlot cur with
  | none => exact ⟨.scanEnd, by simp [seqMoves, hds, hcur]⟩
  | some c =>
    obtain ⟨v, hv⟩ := exists_mem_views s c
    exact ⟨.scan v, by simp [seqMoves, hds, hcur, hv]⟩

/-- Settles O18: each unit has a step of its own, and every unit's steps are enabled. -/
theorem unitsAlwaysHaveAStep : Obligations.UnitsAlwaysHaveAStep := by
  unfold Obligations.UnitsAlwaysHaveAStep
  intro s
  refine ⟨fun htu => ?_, fun cur hds => ?_⟩
  · obtain ⟨m, hm⟩ := exists_mem_tickMoves htu
    exact ⟨m, hm, mem_enabled.mpr (.inr (.inl hm))⟩
  · obtain ⟨m, hm⟩ := exists_mem_seqMoves hds
    exact ⟨m, hm, mem_enabled.mpr (.inr (.inr hm))⟩

/-! ### The size of a set of slots -/

theorem countSlots_eq_card (q : SlotSet) :
    countSlots q = (Finset.univ.filter fun i => slotGet q i = true).card := by
  have hnodup : (slots.filter fun i => slotGet q i).Nodup := List.Nodup.filter _ (by decide)
  rw [countSlots, ← List.toFinset_card_of_nodup hnodup]
  congr 1
  ext i
  simp

theorem countSlots_le (q : SlotSet) : countSlots q ≤ 8 :=
  List.length_filter_le _ slots

@[simp] theorem countSlots_noSlots : countSlots noSlots = 0 := by
  decide

theorem countSlots_remove_lt {q : SlotSet} {i : Slot} (h : slotGet q i = true) :
    countSlots (slotSet q i false) < countSlots q := by
  simp only [countSlots_eq_card]
  refine Finset.card_lt_card (Finset.ssubset_iff_of_subset ?_ |>.mpr ⟨i, by simp [h]⟩)
  intro j
  simp +contextual [slotGet_slotSet]

theorem countSlots_insert_le (q : SlotSet) (i : Slot) :
    countSlots (slotSet q i true) ≤ countSlots q + 1 := by
  simp only [countSlots_eq_card]
  refine (Finset.card_le_card ?_).trans (Finset.card_insert_le i _)
  intro j
  simpa [slotGet_slotSet] using Or.imp_left Eq.symm

/-! ### The work of the tick unit, by its state -/

theorem tickWork_of_idle {s : State} (h : s.tu = .idle) : tickWork s = 0 := by
  simp [tickWork, h]

theorem tickWork_of_run {s : State} {flagq ovfq : SlotSet} (h : s.tu = .run flagq ovfq) :
    tickWork s = 2 * countSlots flagq + countSlots ovfq + 1 := by
  simp [tickWork, h]

theorem tickWork_congr {s t : State} (h : t.tu = s.tu) : tickWork t = tickWork s := by
  simp only [tickWork, h]

theorem tickWork_eq_zero_iff (s : State) : tickWork s = 0 ↔ s.tu = .idle := by
  cases htu : s.tu with
  | idle => simp [tickWork_of_idle htu]
  | run flagq ovfq => simp [tickWork_of_run htu]

/-- A TICK_BEGIN leaves at most 8 TICK_FLAG steps, 8 TICK_OVF steps and the TICK_END (R64). -/
theorem tickWork_tickBegin_le (s : State) : tickWork (tickBegin s) ≤ 17 := by
  have hhits := countSlots_le (hits s.params (s.tick + 1))
  rw [tickWork_of_run (tickBegin_tu s), countSlots_noSlots]
  omega

/-- The acceptance of a TICK: TICK_ALL ends it at once, TICK_BEGIN leaves at most 17 steps. -/
theorem tickWork_accepted_le {s t : State} (htu : s.tu = .idle) (h : exec .tick s = .next t) :
    tickWork t ≤ 17 := by
  rw [exec, execTick_idle htu] at h
  cases h
  split
  · simp [tickWork_of_idle (s := tickAll s) htu]
  · exact tickWork_tickBegin_le s

/-! ### The steps of the tick unit lessen the work -/

section
variable {s : State} {flagq ovfq : SlotSet} (htu : s.tu = .run flagq ovfq)
include htu

/-- TICK_FLAG takes a slot from `flagq`, where it counts twice, and may put it into `ovfq`. -/
theorem tickWork_tickFlag_lt {i : Slot} (hi : slotGet flagq i = true) :
    tickWork (tickFlag i s) < tickWork s := by
  have hremove := countSlots_remove_lt hi
  have hinsert := countSlots_insert_le ovfq i
  rw [tickWork_of_run (tickFlag_tu i htu), tickWork_of_run htu]
  split <;> omega

theorem tickWork_tickOvf_lt {i : Slot} (hi : slotGet ovfq i = true) :
    tickWork (tickOvf i s) < tickWork s := by
  have hremove := countSlots_remove_lt hi
  rw [tickWork_of_run (tickOvf_tu i htu), tickWork_of_run htu]
  omega

theorem tickWork_tickEnd_lt : tickWork (tickEnd s) < tickWork s := by
  rw [tickWork_of_idle (tickEnd_tu s), tickWork_of_run htu]
  omega

end

theorem step_of_nextMove {s : State} {m : Move} (h : nextMove s = some m) : step s = runMove m (usePlan s) := by
  simp [step, h]

theorem step_lessens_tickWork {s t : State} {m : Move} (hnext : nextMove s = some m) (hstep : step s = .next t)
    (hm : m ∈ tickMoves s) : tickWork t < tickWork s := by
  rw [step_of_nextMove hnext] at hstep
  obtain ⟨flagq, ovfq, htu, ⟨i, rfl, hi, -⟩ | ⟨i, rfl, hi⟩ | ⟨rfl, -, -⟩⟩ := mem_tickMoves hm <;> cases hstep
  · exact tickWork_tickFlag_lt (s := usePlan s) htu hi
  · exact tickWork_tickOvf_lt (s := usePlan s) htu hi
  · exact tickWork_tickEnd_lt (s := usePlan s) htu

/-! ### No other step changes it -/

/-- A TICK in progress goes on untouched by the commands of the host (R100, R115). -/
theorem exec_tu_of_running {i : Instr} {s t : State} (htu : s.tu ≠ .idle) (h : exec i s = .next t) :
    t.tu = s.tu := by
  rcases exec_cases h with
    ⟨-, -, rfl⟩ | ⟨-, hidle, -, rfl⟩ | ⟨-, hidle, -, rfl⟩ | ⟨-, -, rfl⟩ | ⟨-, -, rfl⟩ | ⟨id, x, -, rfl⟩ |
      ⟨id, f, -, rfl⟩ | ⟨c, r, -, -, rfl⟩ | ⟨-, -, rfl⟩
  case inr.inl | inr.inr.inl => exact absurd hidle htu
  all_goals simp

theorem runWord_tu_of_running {a : HostAgent} {w : Word} {s t : State} (htu : s.tu ≠ .idle)
    (h : runWord a w s = .next t) : t.tu = s.tu := by
  rcases runWord_cases h with ⟨e, -, rfl⟩ | ⟨i, -, hexec⟩
  · simp
  · exact exec_tu_of_running (s := s.setIssuer a) htu hexec

theorem step_tu_of_not_mem_tickMoves {s t : State} {m : Move} (hnext : nextMove s = some m)
    (hstep : step s = .next t) (htu : s.tu ≠ .idle) (hm : m ∉ tickMoves s) : t.tu = s.tu := by
  rcases mem_enabled.mp (nextMove_mem hnext) with hhost | htick | hseq
  · obtain ⟨a, w, rfl, hpresented⟩ := mem_hostMoves hhost
    obtain ⟨⟨rest, hcmds⟩, -, -⟩ := presented_eq_some hpresented
    rw [step_host hnext hcmds] at hstep
    exact runWord_tu_of_running (s := usePlan s) htu hstep
  · exact absurd htick hm
  · rw [step_of_nextMove hnext] at hstep
    obtain ⟨c, v, rfl, -, -⟩ | ⟨rfl, -⟩ := mem_seqMoves hseq <;> cases hstep <;> simp

/-- Settles O19: at most 17 steps are left after the acceptance, and `tickWork` counts them down. -/
theorem tickCompletesInEighteenSteps : Obligations.TickCompletesInEighteenSteps := by
  unfold Obligations.TickCompletesInEighteenSteps
  exact ⟨fun _ _ => tickWork_accepted_le, tickWork_eq_zero_iff, fun s t m hnext hstep htu =>
    ⟨step_lessens_tickWork hnext hstep, fun hm =>
      tickWork_congr (step_tu_of_not_mem_tickMoves hnext hstep htu hm)⟩⟩

end Sys2Proof.Machine
end

section
/-! PROOF. Idempotent registration and repeatable reads (R56). -/

namespace Sys2Proof.Machine

/-! ### REG and UNREG (R130, R131) -/

theorem slotSet_slotSet_same {α : Type} (v : PerSlot α) (i : Slot) (x : α) :
    slotSet (slotSet v i x) i x = slotSet v i x := by
  simp [slotSet]

theorem writeCallback_reply (id : Nat) (x : Callback) (s : State) :
    (getPort (writeCallback id x s).ports s.issuer).reply = .done := by
  unfold writeCallback
  split <;> simp

theorem writeCallback_cb_repeat (id : Nat) (x : Callback) (s : State) :
    (writeCallback id x (writeCallback id x s)).cb = (writeCallback id x s).cb := by
  unfold writeCallback
  split <;> simp [slotSet_slotSet_same]

theorem writeCallback_repeats (id : Nat) (x : Callback) {s t u : State} (ht : writeCallback id x s = t)
    (hu : writeCallback id x t = u) :
    SameHardware t u ∧ u.refused = t.refused ∧
      (getPort u.ports s.issuer).reply = (getPort t.ports s.issuer).reply := by
  subst ht hu
  have hagain := writeCallback_reply id x (writeCallback id x s)
  rw [writeCallback_issuer] at hagain
  exact ⟨by simp [SameHardware, writeCallback_cb_repeat], by simp, hagain.trans (writeCallback_reply id x s).symm⟩

/-! ### RDOVF and RDDUE (R132, R133) -/

/-- A read's reply depends on the identifier and the slots' values alone. -/
theorem respondSlot_reply_congr (id : Nat) (f : Slot → Word) (s t : State) :
    (getPort (respondSlot id f s).ports s.issuer).reply = (getPort (respondSlot id f t).ports t.issuer).reply := by
  unfold respondSlot
  split <;> simp

theorem respondSlot_refused_repeat (id : Nat) (f : Slot → Word) (s : State) :
    (respondSlot id f (respondSlot id f s)).refused = (respondSlot id f s).refused := by
  unfold respondSlot
  split <;> simp

theorem respondSlot_repeats (id : Nat) (f : Slot → Word) {s t u : State} (ht : respondSlot id f s = t)
    (hu : respondSlot id f t = u) :
    SameHardware t u ∧ u.refused = t.refused ∧
      (getPort u.ports s.issuer).reply = (getPort t.ports s.issuer).reply := by
  subst ht hu
  have hreply := respondSlot_reply_congr id f (respondSlot id f s) s
  rw [respondSlot_issuer] at hreply
  exact ⟨respondSlot_sameHardware id f _, respondSlot_refused_repeat id f s, hreply⟩

/-- Settles O47: a repeated write stores what is there, and a repeated read finds the registers as they were. -/
theorem registrationAndReadsRepeat : Obligations.RegistrationAndReadsRepeat := by
  unfold Obligations.RegistrationAndReadsRepeat
  intro s t u i id h hi ht hu
  rcases hi with rfl | rfl | rfl | rfl <;>
    simp only [exec, execReg, execUnreg, execRdovf, execRddue, Host.Outcome.next.injEq] at ht hu
  · exact writeCallback_repeats id (some h) ht hu
  · exact writeCallback_repeats id none ht hu
  · have hovf : t.ovf = s.ovf := by simp [← ht]
    exact respondSlot_repeats id _ ht (hovf ▸ hu)
  · have hdue : t.due = s.due := by simp [← ht]
    exact respondSlot_repeats id _ ht (hdue ▸ hu)

end Sys2Proof.Machine
end

section
/-! PROOF. The encoding of the commands (R70 to R75, R79, R81): `decode` and `encode` are each other's inverse, and a word
spells a command exactly where it matches the command's row under the mask. -/

namespace Sys2Proof.Machine

/-! ### Decoding the word of a command -/

theorem ofNat_toNat_slotField (w : Word) : BitVec.ofNat 4 (slotField w).toNat = slotField w := by
  simp

/-- R72: the field `SLOT` holds every slot operand up to 15. -/
theorem toNat_ofNat_slot {slot : Nat} (h : slot ≤ 15) : (BitVec.ofNat 4 slot).toNat = slot := by
  simp only [BitVec.toNat_ofNat]
  omega

theorem low24_wordOf (op slot : BitVec 4) : (wordOf op slot 0 0).extractLsb' 0 24 = 0 :=
  (low24_iff _).2 ⟨presentField_wordOf .., rsvField_wordOf .., handlerField_wordOf ..⟩

theorem low23_wordOf (op slot : BitVec 4) : (wordOf op slot 0 0).extractLsb' 0 23 = 0 :=
  (low23_iff _).2 ⟨rsvField_wordOf .., handlerField_wordOf ..⟩

/-- The encoder's word has its row's opcode, zeros in its row's must-be-zero bits, and the operands in their fields. -/
theorem decode_encode {i : Instr} (hwf : i.wellFormed = true) : decode (encode i) = .ok i := by
  rw [decode_by_fields]
  cases i with
  | tick | dispatch | cbret => decide
  | reg slot h | unreg slot | rdovf slot | rddue slot =>
    have hslot := toNat_ofNat_slot (of_decide_eq_true hwf)
    simp only [encode, opField_wordOf, slotField_wordOf, presentField_wordOf, rsvField_wordOf,
      handlerField_wordOf, low23_wordOf, low24_wordOf, hslot]
    rfl

/-- Settles O4, row by row of the opcode map. -/
theorem decodeOfEncodeIsTheCommand : Obligations.DecodeOfEncodeIsTheCommand := by
  unfold Obligations.DecodeOfEncodeIsTheCommand
  exact fun _ => decode_encode

/-! ### The word of a decoded command -/

/-- A word with `RSV` = 0 is built from its fields, whatever names them. -/
theorem wordOf_of_fields {w : Word} {op slot : BitVec 4} {p : BitVec 1} {h : Handler} (hop : opField w = op)
    (hslot : slotField w = slot) (hp : presentField w = p) (hrsv : rsvField w = 0) (hh : handlerField w = h) :
    wordOf op slot p h = w := by
  rw [← hop, ← hslot, ← hp, ← hh, wordOf_fields hrsv]

theorem wordOf_op_of_low28 {w : Word} {op : BitVec 4} (hop : opField w = op) (h : w.extractLsb' 0 28 = 0) :
    wordOf op 0 0 0 = w := by
  obtain ⟨hslot, hp, hrsv, hh⟩ := (low28_iff w).1 h
  exact wordOf_of_fields hop hslot hp hrsv hh

theorem wordOf_op_slot_of_low24 {w : Word} {op : BitVec 4} (hop : opField w = op) (h : w.extractLsb' 0 24 = 0) :
    wordOf op (BitVec.ofNat 4 (slotField w).toNat) 0 0 = w := by
  obtain ⟨hp, hrsv, hh⟩ := (low24_iff w).1 h
  exact wordOf_of_fields hop (ofNat_toNat_slotField w).symm hp hrsv hh

theorem encode_of_decode {w : Word} {i : Instr} (h : decode w = .ok i) : encode i = w := by
  rw [decode_by_fields] at h
  split_ifs at h with h1 h2 h3 hp h4 h5 h6 <;> obtain ⟨hz, rfl⟩ := requireZero_eq_ok.1 h <;>
    simp only [beq_iff_eq] at hz
  · exact wordOf_op_of_low28 h1 hz
  · exact wordOf_op_of_low28 h2 hz
  · exact wordOf_of_fields h3 (ofNat_toNat_slotField w).symm (eq_of_beq hp) hz rfl
  · have hp0 : presentField w = 0 := (BitVec.eq_zero_or_eq_one _).resolve_right (by simpa using hp)
    obtain ⟨hrsv, hh⟩ := (low23_iff w).1 hz
    exact wordOf_of_fields h3 (ofNat_toNat_slotField w).symm hp0 hrsv hh
  · exact wordOf_op_slot_of_low24 h4 hz
  · exact wordOf_op_slot_of_low24 h5 hz
  · exact wordOf_op_of_low28 h6 hz

/-- The decoder reads a slot operand from four bits, so it is at most 15 (R72, R79). -/
theorem wellFormed_of_decode {w : Word} {i : Instr} (h : decode w = .ok i) : i.wellFormed = true := by
  have hslot : (slotField w).toNat ≤ 15 := Nat.le_of_lt_succ (slotField w).isLt
  rw [decode_by_fields] at h
  split_ifs at h <;> obtain ⟨-, rfl⟩ := requireZero_eq_ok.1 h <;> simp [Instr.wellFormed, hslot]

/-- Settles O5: a decoded command's fields are the word's own. -/
theorem encodeOfDecodeIsTheWord : Obligations.EncodeOfDecodeIsTheWord := by
  unfold Obligations.EncodeOfDecodeIsTheWord
  exact fun _ _ h => ⟨encode_of_decode h, wellFormed_of_decode h⟩

/-! ### The rows of the opcode map (R73) -/

/-- The command of `i`'s row whose operands are those in the fields of `w`. -/
def withOperandsOf (w : Word) : Instr → Instr
  | .tick => .tick
  | .dispatch => .dispatch
  | .reg _ _ => .reg (slotField w).toNat (handlerField w)
  | .unreg _ => .unreg (slotField w).toNat
  | .rdovf _ => .rdovf (slotField w).toNat
  | .rddue _ => .rddue (slotField w).toNat
  | .cbret => .cbret

@[simp] theorem rowMatch_withOperandsOf (w : Word) (i : Instr) : (withOperandsOf w i).rowMatch = i.rowMatch := by
  cases i <;> rfl

theorem wellFormed_withOperandsOf (w : Word) (i : Instr) : (withOperandsOf w i).wellFormed = true := by
  have hslot : (slotField w).toNat ≤ 15 := Nat.le_of_lt_succ (slotField w).isLt
  cases i <;> simp [withOperandsOf, Instr.wellFormed, hslot]

theorem eq_of_and_ones {n : Nat} {x m k : BitVec n} (h : x &&& m = k) (hm : m = BitVec.allOnes n) : x = k := by
  rwa [hm, BitVec.and_allOnes] at h

/-- Every row's mask holds `OP`, `P` and `RSV`, so a match gives them. -/
theorem fixed_fields_of_and_rowMask {w : Word} {i : Instr} (h : w &&& i.rowMask = i.rowMatch) :
    opField w = opField i.rowMatch ∧ presentField w = presentField i.rowMatch ∧ rsvField w = 0 := by
  have hmask : opField i.rowMask = BitVec.allOnes 4 ∧ presentField i.rowMask = BitVec.allOnes 1 ∧
      rsvField i.rowMask = BitVec.allOnes 7 ∧ rsvField i.rowMatch = 0 := by
    cases i <;> simp only [Instr.rowMask, Instr.rowMatch] <;> decide
  obtain ⟨hmop, hmp, hmrsv, hrsv0⟩ := hmask
  obtain ⟨hop, -, hp, hrsv, -⟩ := (word_and_eq_iff _ _ _).1 h
  exact ⟨eq_of_and_ones hop hmop, eq_of_and_ones hp hmp, (eq_of_and_ones hrsv hmrsv).trans hrsv0⟩

/-- A word that matches a row is the word of the row's command with the operands it holds: `SLOT` and `H` are an operand
or in the mask. -/
theorem encode_withOperandsOf {w : Word} {i : Instr} (h : w &&& i.rowMask = i.rowMatch) :
    encode (withOperandsOf w i) = w := by
  obtain ⟨hop, hp, hrsv⟩ := fixed_fields_of_and_rowMask h
  obtain ⟨-, hslot, -, -, hh⟩ := (word_and_eq_iff _ _ _).1 h
  cases i with
  | tick | dispatch | cbret =>
    have hslot0 : slotField w = 0 := (eq_of_and_ones hslot (by decide)).trans (by decide)
    have hh0 : handlerField w = 0 := (eq_of_and_ones hh (by decide)).trans (by decide)
    exact wordOf_of_fields (hop.trans (by decide)) hslot0 (hp.trans (by decide)) hrsv hh0
  | reg slot r =>
    simp only [Instr.rowMatch] at hop hp
    exact wordOf_of_fields (hop.trans (by decide)) (ofNat_toNat_slotField w).symm (hp.trans (by decide)) hrsv rfl
  | unreg slot | rdovf slot | rddue slot =>
    simp only [Instr.rowMatch, Instr.rowMask] at hop hp hh
    have hh0 : handlerField w = 0 := (eq_of_and_ones hh (by decide)).trans (by decide)
    exact wordOf_of_fields (hop.trans (by decide)) (ofNat_toNat_slotField w).symm (hp.trans (by decide)) hrsv hh0

/-- The row of a command that can be encoded matches its word, all seven rows of it. -/
theorem encode_and_rowMask {i : Instr} (hwf : i.wellFormed = true) : encode i &&& i.rowMask = i.rowMatch := by
  cases i with
  | tick => exact Laws.RowOfOpcodeMap.tick hwf
  | dispatch => exact Laws.RowOfOpcodeMap.dispatch hwf
  | reg slot h => exact Laws.RowOfOpcodeMap.reg slot h hwf
  | unreg slot => exact Laws.RowOfOpcodeMap.unreg slot hwf
  | rdovf slot => exact Laws.RowOfOpcodeMap.rdovf slot hwf
  | rddue slot => exact Laws.RowOfOpcodeMap.rddue slot hwf
  | cbret => exact Laws.RowOfOpcodeMap.cbret hwf

theorem rowMask_eq_of_rowMatch_eq {i j : Instr} (h : i.rowMatch = j.rowMatch) : i.rowMask = j.rowMask := by
  cases i <;> cases j <;> simp [Instr.rowMatch, Instr.rowMask] at h ⊢

theorem decode_of_and_rowMask {w : Word} {i : Instr} (h : w &&& i.rowMask = i.rowMatch) :
    decode w = .ok (withOperandsOf w i) := by
  have hdecode := decode_encode (wellFormed_withOperandsOf w i)
  rwa [encode_withOperandsOf h] at hdecode

theorem and_rowMask_of_decode {w : Word} {i : Instr} (h : decode w = .ok i) : w &&& i.rowMask = i.rowMatch := by
  rw [← encode_of_decode h, encode_and_rowMask (wellFormed_of_decode h)]

/-- Settles O6: a matching word is the word of a command of the row, and rows that share their match share their mask. -/
theorem wordSpellsMnemonicByMatchAndMask : Obligations.WordSpellsMnemonicByMatchAndMask := by
  unfold Obligations.WordSpellsMnemonicByMatchAndMask
  intro w i
  constructor
  · exact fun h => ⟨_, decode_of_and_rowMask h, rowMatch_withOperandsOf w i⟩
  · rintro ⟨j, hdecode, hrow⟩
    rw [← hrow, ← rowMask_eq_of_rowMatch_eq hrow]
    exact and_rowMask_of_decode hdecode

/-! ### The words that spell no command (R74, R75) -/

/-- R74: `OP` alone decides. -/
theorem decode_reservedOpcode_iff (w : Word) :
    decode w = .error .reservedOpcode ↔ opField w = 0 ∨ 7 ≤ (opField w).toNat := by
  have hundefined : (opField w = 0 ∨ 7 ≤ (opField w).toNat) ↔ opField w ≠ 1 ∧ opField w ≠ 2 ∧ opField w ≠ 3 ∧
      opField w ≠ 4 ∧ opField w ≠ 5 ∧ opField w ≠ 6 := by
    generalize opField w = op
    revert op
    decide
  rw [hundefined, decode_by_fields]
  split_ifs <;> simp_all [requireZero_eq_error]

theorem decode_reservedBits_iff (w : Word) :
    decode w = .error .reservedBits ↔ decode w ≠ .error .reservedOpcode ∧ ∀ i, decode w ≠ .ok i := by
  rcases decode w with (_ | _) | _ <;> simp

/-- A word spells no command exactly where it matches no row. -/
theorem forall_decode_ne_ok_iff (w : Word) :
    (∀ i, decode w ≠ .ok i) ↔ ∀ i : Instr, w &&& i.rowMask ≠ i.rowMatch :=
  ⟨fun h _ hrow => h _ (decode_of_and_rowMask hrow), fun h _ hdecode => h _ (and_rowMask_of_decode hdecode)⟩

/-- A host agent's step whose word spells no command refuses it (R13, R76, R151). -/
theorem step_of_decode_error {s : State} {a : HostAgent} {w : Word} {rest : List Word} {e : DecodeError}
    (hnext : nextMove s = some (.host a)) (hcmds : (getPort s.ports a).cmds = w :: rest)
    (hdecode : decode w = .error e) :
    ∃ t, step s = .next t ∧ SameHardware s t ∧ t.refused = true ∧
      getPort t.ports a = ⟨rest, .refused (refuseReasonOf e)⟩ := by
  refine ⟨refuse (refuseReasonOf e) ((usePlan s).setIssuer a), ?_, by simp [SameHardware], refuse_refused _ _, ?_⟩
  · simp [step_host hnext hcmds, runWord, hdecode]
  · have hport := refuse_port (refuseReasonOf e) ((usePlan s).setIssuer a)
    simpa [hcmds] using hport

/-- Settles O7: the decoder's last row, and the step that refuses. -/
theorem reservedOpcodeIsRefused : Obligations.ReservedOpcodeIsRefused := by
  unfold Obligations.ReservedOpcodeIsRefused
  refine ⟨decode_reservedOpcode_iff, fun s a w rest hnext hcmds hop => ?_⟩
  exact step_of_decode_error hnext hcmds ((decode_reservedOpcode_iff w).2 hop)

/-- Settles O8: such a word is the one that is neither of a reserved opcode nor matched by a row. -/
theorem reservedBitsAreRefused : Obligations.ReservedBitsAreRefused := by
  unfold Obligations.ReservedBitsAreRefused
  refine ⟨fun w => ?_, fun s a w rest => step_of_decode_error⟩
  have hop : ¬ (opField w = 0 ∨ 7 ≤ (opField w).toNat) ↔ 1 ≤ (opField w).toNat ∧ (opField w).toNat ≤ 6 := by
    generalize opField w = op
    revert op
    decide
  rw [decode_reservedBits_iff, forall_decode_ne_ok_iff, Ne, decode_reservedOpcode_iff, hop, and_assoc]

/-! ### The words of the assembler's forms (R79) -/

/-- A word is the or of what its row fixes, its slot and its handler. -/
theorem wordOf_eq_or (op slot : BitVec 4) (p : BitVec 1) (h : Handler) :
    wordOf op slot p h = wordOf op 0 p 0 ||| wordOf 0 slot 0 0 ||| wordOf 0 0 0 h := by
  apply BitVec.eq_of_getLsbD_eq
  intro i hi
  simp only [BitVec.getLsbD_or, wordOf_getLsbD]
  split_ifs <;> simp

theorem wordOf_slot_eq_shift : ∀ slot ≤ 15, wordOf 0 (BitVec.ofNat 4 slot) 0 0 = BitVec.ofNat 32 slot <<< 24 := by
  decide

theorem wordOf_handler_eq_setWidth (h : Handler) : wordOf 0 0 0 h = h.setWidth 32 := by
  apply BitVec.eq_of_getLsbD_eq
  intro i hi
  rw [wordOf_getLsbD]
  simp only [BitVec.getLsbD_setWidth]
  by_cases h1 : i < 16
  · simp [h1, hi]
  · simp [h1, BitVec.getLsbD_of_ge h i (by omega)]

/-- Settles O12: a form's word is the or of its base word, the slot at bit 24 and the handler. -/
theorem assemblerFormsEncode : Obligations.AssemblerFormsEncode := by
  unfold Obligations.AssemblerFormsEncode
  refine ⟨by decide, by decide, by decide, fun slot h hslot => ?_⟩
  have hor (op : BitVec 4) (p : BitVec 1) (h : Handler) : wordOf op (BitVec.ofNat 4 slot) p h =
      wordOf op 0 p 0 ||| (BitVec.ofNat 32 slot <<< 24) ||| h.setWidth 32 := by
    rw [wordOf_eq_or, wordOf_slot_eq_shift slot hslot, wordOf_handler_eq_setWidth]
  have hreg : wordOf 3 0 1 0 = 0x30800000 := by decide
  have hunreg : wordOf 3 0 0 0 = 0x30000000 := by decide
  have hrdovf : wordOf 4 0 0 0 = 0x40000000 := by decide
  have hrddue : wordOf 5 0 0 0 = 0x50000000 := by decide
  simp only [encode, hor, hreg, hunreg, hrdovf, hrddue]
  simp

/-! ### The examples of R81 -/

/-- Settles O9: nineteen closed words, decoded one by one. -/
theorem encodingExamplesDecode : Obligations.EncodingExamplesDecode := by
  unfold Obligations.EncodingExamplesDecode
  decide

end Sys2Proof.Machine
end

section
/-! PROOF. The INVOKE word (R78, R110) and the pseudo-instructions of the assembler (R80). -/

namespace Sys2Proof.Machine

/-! ### The INVOKE word -/

/-- Bits [23:16] of a word without `P` are zero. -/
theorem extractLsb'_wordOf_16_8 (op slot : BitVec 4) (h : Handler) :
    (wordOf op slot 0 h).extractLsb' 16 8 = 0 := by
  rw [extractLsb'_eq_zero_iff]
  intro i hi
  simp [wordOf_getLsbD, show 16 + i < 24 by omega]

theorem invokeOut_eq_some_iff (s : State) (x : Word) :
    invokeOut s = some x ↔ ∃ c h, s.ds = .await c h ∧ x = invokeWord c h := by
  unfold invokeOut
  cases s.ds with
  | idle | scan cur => simp
  | await c h => simp [eq_comm]

/-- Settles O11: the INVOKE word is built from fields, and the output looks at `DS` alone. -/
theorem invokeWordIsPresentedWhileAwaiting : Obligations.InvokeWordIsPresentedWhileAwaiting := by
  unfold Obligations.InvokeWordIsPresentedWhileAwaiting
  refine ⟨fun c h => ⟨opField_wordOf _ _ _ _, ?_, extractLsb'_wordOf_16_8 _ _ _, handlerField_wordOf _ _ _ _⟩,
    invokeOut_eq_some_iff⟩
  change (slotField (wordOf 0 (BitVec.ofNat 4 c.val) 0 h)).toNat = c.val
  rw [slotField_wordOf, toNat_ofNat_slot (by omega)]

/-! ### The pseudo-instructions (R80) -/

theorem assembleTokens_ticks (t : Token) :
    assembleTokens [['T', 'I', 'C', 'K', 'S'], t] = ticksExpansion t := by
  simp [assembleTokens]

theorem assembleTokens_reg (t u : Token) : assembleTokens [['R', 'E', 'G'], t, [','], u] = regLine t u := by
  simp [assembleTokens]

/-- Settles O13: the two lines go to `ticksExpansion` and to `regLine`, which expand them. -/
theorem pseudoInstructionsExpand : Obligations.PseudoInstructionsExpand := by
  unfold Obligations.PseudoInstructionsExpand
  constructor
  · intro t n hn
    simp [assembleTokens_ticks, ticksExpansion, hn]
  · intro t slot hslot
    simp [assembleTokens_reg, regLine, hslot]

end Sys2Proof.Machine
end

section
/-! PROOF. The tick unit step by step (R91 to R100): the guard of each step, what it does, and what it
leaves unchanged. -/

namespace Sys2Proof.Machine

/-! ### The increment of an overflow counter (R95) -/

theorem inc_toNat_of_lt (p : OvfPolicy) {v : Count} (h : v.toNat < 2 ^ 32 - 1) :
    (inc p v).toNat = v.toNat + 1 := by
  have hne : v ≠ ovfMax := by
    rintro rfl
    exact absurd h (by decide)
  have hinc : inc p v = v + 1 := if_neg (by simpa using hne)
  rw [hinc]
  bv_omega

/-- Settles O29: below `MAX` the counter has room for one more; at `MAX` each policy has its own value. -/
theorem counterIncrementFollowsPolicy : Obligations.CounterIncrementFollowsPolicy := by
  unfold Obligations.CounterIncrementFollowsPolicy
  exact ⟨by decide, fun p _ => inc_toNat_of_lt p, by decide, by decide⟩

/-! ### What TICK does (R90): TICK_ALL, TICK_BEGIN, or nothing where it is held -/

theorem exec_tick_atomic {s : State} (htu : s.tu = .idle) (hatomic : s.params.tickAtomic = true) :
    exec .tick s = .next (tickAll s) := by
  simp [exec, execTick_idle htu, hatomic]

theorem exec_tick_split {s : State} (htu : s.tu = .idle) (hsplit : s.params.tickAtomic = false) :
    exec .tick s = .next (tickBegin s) := by
  simp [exec, execTick_idle htu, hsplit]

theorem exec_tick_held {s : State} (htu : s.tu ≠ .idle) : exec .tick s = .next s := by
  cases hrun : s.tu with
  | idle => exact absurd hrun htu
  | run flagq ovfq => exact execTick_run hrun

/-- What `retire` does to the ports, in the words of the frame (R12, R77). -/
theorem commandTaken_retire (r : Reply) (s : State) : CommandTaken r s (retire r s) :=
  ⟨retire_port r s, fun _ ha => retire_port_other r s ha.symm⟩

theorem commandCompleted_deliver (a : HostAgent) (s : State) : CommandCompleted a s (deliver .done a s) :=
  ⟨deliver_port .done a s, fun _ hb => deliver_port_other .done s hb.symm⟩

/-- Settles O24: the acceptance of a split TICK is TICK_BEGIN, and the invariant leaves the counter room. -/
theorem tickBeginEffect : Obligations.TickBeginEffect := by
  unfold Obligations.TickBeginEffect
  intro s htu hsplit
  have hpending (i : Slot) : slotGet (hits s.params (s.tick + 1)) i = true ↔
      (s.tick + 1).toNat % interval s.params i = 0 := by
    rw [slotGet_hits, lane_iff]
  exact ⟨tickBegin s, exec_tick_split htu hsplit, rfl,
    fun hinv => tick_succ_toNat ((inv_iff_of_idle htu).mp hinv),
    ⟨_, _, rfl, hpending, slotGet_noSlots⟩, rfl, rfl, rfl, rfl, rfl, rfl,
    commandTaken_retire .nothing s, rfl, rfl, rfl, rfl, rfl, rfl⟩

/-- Settles O25: the atomic TICK is TICK_ALL, whose arrays are read off lane by lane. -/
theorem tickAllEffect : Obligations.TickAllEffect := by
  unfold Obligations.TickAllEffect
  intro s htu hatomic
  refine ⟨tickAll s, exec_tick_atomic htu hatomic, by simp [rollover], fun i hi => ?_, fun i hi => ?_, htu, rfl,
    rfl, rfl, rfl, commandTaken_retire .done s, rfl, rfl, rfl, rfl, rfl, rfl⟩
  · have hlane := (lane_iff s.params (s.tick + 1) i).mpr hi
    rw [tickAll_due, tickAll_ovf, slotGet_dueAfter, slotGet_ovfAfter, hlane]
    simp
  · have hlane : lane s.params (s.tick + 1) i = false :=
      Bool.eq_false_iff.mpr (mt (lane_iff s.params (s.tick + 1) i).mp hi)
    rw [tickAll_due, tickAll_ovf, slotGet_dueAfter, slotGet_ovfAfter, hlane]
    simp

/-! ### Which steps are enabled -/

theorem presented_of_mem_enabled {s : State} {a : HostAgent} (h : .host a ∈ enabled s) :
    ∃ w, presented s a = some w := by
  rcases mem_enabled.mp h with hhost | htick | hseq
  · obtain ⟨b, w, hab, hw⟩ := mem_hostMoves hhost
    cases hab
    exact ⟨w, hw⟩
  · obtain ⟨-, -, -, ⟨i, hm, -⟩ | ⟨i, hm, -⟩ | ⟨hm, -⟩⟩ := mem_tickMoves htick <;> cases hm
  · obtain ⟨c, v, hm, -⟩ | ⟨hm, -⟩ := mem_seqMoves hseq <;> cases hm

/-- A step of no host agent and not of the sequencer is enabled where it is one of the tick unit's. -/
theorem mem_enabled_iff_mem_tickMoves {m : Move} (s : State) (hhost : ∀ a, m ≠ .host a)
    (hscan : ∀ v, m ≠ .scan v) (hscanEnd : m ≠ .scanEnd) : m ∈ enabled s ↔ m ∈ tickMoves s := by
  refine ⟨fun h => ?_, fun h => mem_enabled.mpr (.inr (.inl h))⟩
  rcases mem_enabled.mp h with hm | hm | hm
  · obtain ⟨a, w, rfl, -⟩ := mem_hostMoves hm
    exact absurd rfl (hhost a)
  · exact hm
  · obtain ⟨c, v, rfl, -⟩ | ⟨rfl, -⟩ := mem_seqMoves hm
    · exact absurd rfl (hscan v)
    · exact absurd rfl hscanEnd

/-- The tick unit's moves are exactly those whose guards hold (R93, R94, R96). -/
theorem mem_tickMoves_iff {s : State} {m : Move} :
    m ∈ tickMoves s ↔ ∃ flagq ovfq, s.tu = .run flagq ovfq ∧
      ((∃ i, m = .tickFlag i ∧ slotGet flagq i = true ∧ orderAllows s.params.tickOrder flagq i = true) ∨
       (∃ i, m = .tickOvf i ∧ slotGet ovfq i = true) ∨
       (m = .tickEnd ∧ isEmptySet flagq = true ∧ isEmptySet ovfq = true)) := by
  refine ⟨mem_tickMoves, ?_⟩
  rintro ⟨flagq, ovfq, htu, ⟨i, rfl, hi, horder⟩ | ⟨i, rfl, hi⟩ | ⟨rfl, hflag, hovf⟩⟩
  · exact tickFlag_mem_tickMoves htu hi horder
  · exact tickOvf_mem_tickMoves htu hi
  · exact tickEnd_mem_tickMoves htu hflag hovf

theorem isHeld_of_decode_tick {s : State} {w : Word} (h : decode w = .ok .tick) : isHeld s w = tickRunning s := by
  simp [isHeld, h]

theorem tickRunning_eq_false_iff (s : State) : tickRunning s = false ↔ s.tu = .idle := by
  unfold tickRunning
  cases s.tu <;> simp

/-- Settles O26: the word a host agent presents is none that is held. -/
theorem tickIsHeldWhileOneRuns : Obligations.TickIsHeldWhileOneRuns := by
  unfold Obligations.TickIsHeldWhileOneRuns
  intro s htu
  refine ⟨exec_tick_held htu, fun a w rest hcmds hdecode henabled => htu ?_⟩
  obtain ⟨w', hw'⟩ := presented_of_mem_enabled henabled
  obtain ⟨⟨rest', hcmds'⟩, -, hheld⟩ := presented_eq_some hw'
  obtain ⟨rfl, -⟩ : w = w' ∧ rest = rest' := by simpa using hcmds.symm.trans hcmds'
  rwa [isHeld_of_decode_tick hdecode, tickRunning_eq_false_iff] at hheld

/-- R93: under `ASCENDING` a pending slot's TICK_FLAG may be next where no lesser slot is pending. -/
theorem orderAllows_iff {order : TickOrder} {flagq : SlotSet} {i : Slot} (hi : slotGet flagq i = true) :
    orderAllows order flagq i = true ↔ order = .any ∨ ∀ j, slotGet flagq j = true → i ≤ j := by
  cases order with
  | any => simp [orderAllows]
  | ascending =>
    have hleast : (∀ j, j < i → slotGet flagq j = false) ↔ ∀ j, slotGet flagq j = true → i ≤ j :=
      forall_congr' fun j => by rw [← not_lt, ← Bool.not_eq_true, imp_not_comm]
    simp [orderAllows, leastSlot_eq_some_iff, hi, hleast]

theorem tickFlag_mem_enabled_iff (s : State) (i : Slot) :
    .tickFlag i ∈ enabled s ↔ ∃ flagq ovfq, s.tu = .run flagq ovfq ∧ slotGet flagq i = true ∧
      orderAllows s.params.tickOrder flagq i = true := by
  rw [mem_enabled_iff_mem_tickMoves (m := .tickFlag i) s nofun nofun nofun, mem_tickMoves_iff]
  simp

theorem tickOvf_mem_enabled_iff (s : State) (i : Slot) :
    .tickOvf i ∈ enabled s ↔ ∃ flagq ovfq, s.tu = .run flagq ovfq ∧ slotGet ovfq i = true := by
  rw [mem_enabled_iff_mem_tickMoves (m := .tickOvf i) s nofun nofun nofun, mem_tickMoves_iff]
  simp

theorem tickEnd_mem_enabled_iff (s : State) :
    .tickEnd ∈ enabled s ↔ ∃ flagq ovfq, s.tu = .run flagq ovfq ∧
      (∀ i, slotGet flagq i = false) ∧ ∀ i, slotGet ovfq i = false := by
  rw [mem_enabled_iff_mem_tickMoves (m := .tickEnd) s nofun nofun nofun, mem_tickMoves_iff]
  simp [isEmptySet_iff]

/-! ### What the steps of a TICK do -/

theorem slotGet_insert_iff (q : SlotSet) (i j : Slot) :
    slotGet (slotSet q i true) j = true ↔ slotGet q j = true ∨ j = i := by
  by_cases hij : i = j
  · simp [hij]
  · simp [slotGet_slotSet_other _ _ hij, Ne.symm hij]

theorem slotGet_remove_iff (q : SlotSet) (i j : Slot) :
    slotGet (slotSet q i false) j = true ↔ slotGet q j = true ∧ j ≠ i := by
  by_cases hij : i = j
  · simp [hij]
  · simp [slotGet_slotSet_other _ _ hij, Ne.symm hij]

/-- R93: the slot joins those with a miss exactly where its flag was found set. -/
theorem slotGet_missed_iff (ovfq : SlotSet) (i j : Slot) (old : Bool) :
    slotGet (if old then slotSet ovfq i true else ovfq) j = true ↔
      slotGet ovfq j = true ∨ (j = i ∧ old = true) := by
  cases old <;> simp [slotGet_insert_iff]

/-- Settles O27: TICK_FLAG's guard is that of the tick unit's moves, and its effect one swap of the flag. -/
theorem tickFlagEffect : Obligations.TickFlagEffect := by
  unfold Obligations.TickFlagEffect
  refine fun s i => ⟨?_, fun flagq ovfq hnext htu => ?_⟩
  · rw [tickFlag_mem_enabled_iff]
    exact exists_congr fun flagq => exists_congr fun ovfq => and_congr_right fun _ =>
      and_congr_right fun hi => orderAllows_iff hi
  · have hdue := tickFlag_due (s := usePlan s) i htu
    refine ⟨tickFlag i (usePlan s), step_of_nextMove hnext, ?_, fun j hj => ?_,
      ⟨_, _, tickFlag_tu (s := usePlan s) i htu, slotGet_remove_iff flagq i,
        fun j => slotGet_missed_iff ovfq i j _⟩, ?_⟩
    · rw [hdue, slotGet_slotSet_self]
    · rw [hdue, slotGet_slotSet_other _ _ hj.symm, usePlan_due]
    · simp [InternalStep]

/-- Settles O28: TICK_OVF's guard is that of the tick unit's moves, and its effect one increment. -/
theorem tickOvfEffect : Obligations.TickOvfEffect := by
  unfold Obligations.TickOvfEffect
  refine fun s i => ⟨tickOvf_mem_enabled_iff s i, fun flagq ovfq hnext htu => ?_⟩
  have hovf := tickOvf_ovf (s := usePlan s) i htu
  refine ⟨tickOvf i (usePlan s), step_of_nextMove hnext, ?_, fun j hj => ?_,
    ⟨_, tickOvf_tu (s := usePlan s) i htu, slotGet_remove_iff ovfq i⟩, ?_⟩
  · rw [hovf, slotGet_slotSet_self, usePlan_params, usePlan_ovf]
  · rw [hovf, slotGet_slotSet_other _ _ hj.symm, usePlan_ovf]
  · simp [InternalStep]

/-- Settles O30: TICK_END's guard is that no slot is pending, and its effect the rollover and the completion. -/
theorem tickEndEffect : Obligations.TickEndEffect := by
  unfold Obligations.TickEndEffect
  refine fun s => ⟨tickEnd_mem_enabled_iff s, fun hnext => ?_⟩
  exact ⟨tickEnd (usePlan s), step_of_nextMove hnext, by simp [rollover], rfl, rfl, rfl, rfl, rfl, rfl,
    commandCompleted_deliver s.tickBy s, rfl, rfl, rfl, rfl, rfl, rfl, rfl⟩

/-! ### The tick unit and the callbacks (R99) -/

theorem tickFlag_idle (i : Slot) {s : State} (h : s.tu = .idle) : tickFlag i s = s := by
  simp [tickFlag, h]

theorem tickOvf_idle (i : Slot) {s : State} (h : s.tu = .idle) : tickOvf i s = s := by
  simp [tickOvf, h]

section
variable (s : State) (x y : PerSlot Callback) (z : Sequencer)

theorem tickFlag_setCb_setCbsnap_setDs (i : Slot) :
    tickFlag i (((s.setCb x).setCbsnap y).setDs z) = (((tickFlag i s).setCb x).setCbsnap y).setDs z := by
  cases htu : s.tu with
  | idle => rw [tickFlag_idle i htu, tickFlag_idle i (by exact htu)]
  | run flagq ovfq =>
    rw [tickFlag_run i htu, tickFlag_run (s := ((s.setCb x).setCbsnap y).setDs z) i htu]
    rfl

theorem tickOvf_setCb_setCbsnap_setDs (i : Slot) :
    tickOvf i (((s.setCb x).setCbsnap y).setDs z) = (((tickOvf i s).setCb x).setCbsnap y).setDs z := by
  cases htu : s.tu with
  | idle => rw [tickOvf_idle i htu, tickOvf_idle i (by exact htu)]
  | run flagq ovfq =>
    rw [tickOvf_run i htu, tickOvf_run (s := ((s.setCb x).setCbsnap y).setDs z) i htu]
    rfl

theorem exec_tick_setCb_setCbsnap_setDs {t : State} (h : exec .tick s = .next t) :
    exec .tick (((s.setCb x).setCbsnap y).setDs z) = .next (((t.setCb x).setCbsnap y).setDs z) := by
  cases htu : s.tu with
  | idle =>
    cases hatomic : s.params.tickAtomic with
    | true =>
      cases (exec_tick_atomic htu hatomic).symm.trans h
      exact exec_tick_atomic htu hatomic
    | false =>
      cases (exec_tick_split htu hatomic).symm.trans h
      exact exec_tick_split htu hatomic
  | run flagq ovfq =>
    have hrun : s.tu ≠ .idle := by simp [htu]
    cases (exec_tick_held hrun).symm.trans h
    exact exec_tick_held hrun

end

/-- Settles O57: no step of the tick unit looks at the callbacks, the snapshot or the sequencer. -/
theorem tickIgnoresCallbacksAndPass : Obligations.TickIgnoresCallbacksAndPass := by
  unfold Obligations.TickIgnoresCallbacksAndPass
  exact fun s x y z i => ⟨tickFlag_setCb_setCbsnap_setDs s x y z i, tickOvf_setCb_setCbsnap_setDs s x y z i, rfl,
    fun _ => exec_tick_setCb_setCbsnap_setDs s x y z⟩

end Sys2Proof.Machine
end

section
/-! PROOF. A split TICK with no concurrent step (R97, R98): no step of it changes what the TICK will leave, which is
what TICK_ALL leaves. -/

namespace Sys2Proof.Machine

/-! ### What a TICK in progress will leave -/

/-- `due` once every pending TICK_FLAG has run. -/
def dueAtEnd (flagq : SlotSet) (s : State) : PerSlot Bool :=
  slotTab fun i => slotGet flagq i || slotGet s.due i

/-- `ovf` once every pending TICK_OVF has run, and that of every pending TICK_FLAG that will find its flag set. -/
def ovfAtEnd (flagq ovfq : SlotSet) (s : State) : PerSlot Count :=
  slotTab fun i =>
    if slotGet ovfq i || (slotGet flagq i && slotGet s.due i) then inc s.params.ovfPolicy (slotGet s.ovf i)
    else slotGet s.ovf i

/-- The state in which the TICK in progress ends, where no other agent takes a step. -/
def tickOutcome (s : State) : State :=
  match s.tu with
  | .idle => s
  | .run flagq ovfq => tickEnd ((s.setDue (dueAtEnd flagq s)).setOvf (ovfAtEnd flagq ovfq s))

/-- A slot's miss is counted once: while its TICK_FLAG is pending no TICK_OVF of it is (R39 c). -/
def QueuesDisjoint (s : State) : Prop :=
  ∀ flagq ovfq, s.tu = .run flagq ovfq → ∀ i, slotGet flagq i = true → slotGet ovfq i = false

@[simp] theorem slotGet_dueAtEnd (flagq : SlotSet) (s : State) (i : Slot) :
    slotGet (dueAtEnd flagq s) i = (slotGet flagq i || slotGet s.due i) := by
  simp [dueAtEnd]

@[simp] theorem slotGet_ovfAtEnd (flagq ovfq : SlotSet) (s : State) (i : Slot) :
    slotGet (ovfAtEnd flagq ovfq s) i =
      if slotGet ovfq i || (slotGet flagq i && slotGet s.due i) then inc s.params.ovfPolicy (slotGet s.ovf i)
      else slotGet s.ovf i := by
  simp [ovfAtEnd]

theorem tickOutcome_of_idle {s : State} (h : s.tu = .idle) : tickOutcome s = s := by
  simp [tickOutcome, h]

theorem tickOutcome_of_run {s : State} {flagq ovfq : SlotSet} (h : s.tu = .run flagq ovfq) :
    tickOutcome s = tickEnd ((s.setDue (dueAtEnd flagq s)).setOvf (ovfAtEnd flagq ovfq s)) := by
  simp [tickOutcome, h]

theorem setPort_setPort (p : Ports) (a : HostAgent) (q r : Port) : setPort (setPort p a q) a r = setPort p a r := by
  cases a <;> rfl

/-- R98: a TICK that TICK_BEGIN accepts will leave what TICK_ALL leaves. -/
theorem tickOutcome_tickBegin (s : State) :
    tickOutcome (tickBegin s) = ((tickAll s).setTickBy s.issuer).setTu .idle := by
  have hdue : dueAtEnd (hits s.params (s.tick + 1)) (tickBegin s) = dueAfter s (s.tick + 1) :=
    perSlot_ext fun i => by simp
  have hovf : ovfAtEnd (hits s.params (s.tick + 1)) noSlots (tickBegin s) = ovfAfter s (s.tick + 1) :=
    perSlot_ext fun i => by simp
  have hports : (tickEnd (tickBegin s)).ports = (tickAll s).ports := by
    simp [tickEnd, tickBegin, tickAll, deliver, retire, setPort_setPort]
  rw [tickOutcome_of_run (tickBegin_tu s), hdue, hovf]
  exact congrArg (fun p => (((tickAll s).setTickBy s.issuer).setTu .idle).setPorts p) hports

/-! ### No step of the TICK changes it -/

section
variable {s : State} {flagq ovfq : SlotSet} (htu : s.tu = .run flagq ovfq)
include htu

/-- The flag that TICK_FLAG sets was to be set, and the miss that it finds was to be counted. -/
theorem tickOutcome_tickFlag (hdisjoint : QueuesDisjoint s) {i : Slot} (hi : slotGet flagq i = true) :
    tickOutcome (tickFlag i s) = tickOutcome s := by
  have hclear := hdisjoint flagq ovfq htu i hi
  rw [tickOutcome_of_run (tickFlag_tu i htu), tickOutcome_of_run htu]
  have hdue : dueAtEnd (slotSet flagq i false) (tickFlag i s) = dueAtEnd flagq s := by
    refine perSlot_ext fun j => ?_
    by_cases hij : i = j
    · subst hij
      simp [tickFlag_due i htu, hi]
    · simp [tickFlag_due i htu, slotGet_slotSet_other _ _ hij]
  have hovf : ovfAtEnd (slotSet flagq i false) (if slotGet s.due i then slotSet ovfq i true else ovfq)
      (tickFlag i s) = ovfAtEnd flagq ovfq s := by
    refine perSlot_ext fun j => ?_
    by_cases hij : i = j
    · subst hij
      cases hold : slotGet s.due i <;> simp [hold, hi, hclear]
    · cases slotGet s.due i <;> simp [tickFlag_due i htu, slotGet_slotSet_other _ _ hij]
  rw [hdue, hovf, tickFlag_run i htu]
  rfl

/-- The increment that TICK_OVF does was to be done. -/
theorem tickOutcome_tickOvf (hdisjoint : QueuesDisjoint s) {i : Slot} (hi : slotGet ovfq i = true) :
    tickOutcome (tickOvf i s) = tickOutcome s := by
  have hclear : slotGet flagq i = false :=
    Bool.eq_false_iff.mpr fun hflag => by simp [hdisjoint flagq ovfq htu i hflag] at hi
  rw [tickOutcome_of_run (tickOvf_tu i htu), tickOutcome_of_run htu]
  have hdue : dueAtEnd flagq (tickOvf i s) = dueAtEnd flagq s := perSlot_ext fun j => by simp
  have hovf : ovfAtEnd flagq (slotSet ovfq i false) (tickOvf i s) = ovfAtEnd flagq ovfq s := by
    refine perSlot_ext fun j => ?_
    by_cases hij : i = j
    · subst hij
      simp [tickOvf_ovf i htu, hi, hclear]
    · simp [tickOvf_ovf i htu, slotGet_slotSet_other _ _ hij]
  rw [hdue, hovf, tickOvf_run i htu]
  rfl

/-- TICK_END comes where nothing is pending. -/
theorem tickOutcome_eq_tickEnd (hflag : ∀ i, slotGet flagq i = false) (hovf : ∀ i, slotGet ovfq i = false) :
    tickOutcome s = tickEnd s := by
  have hdue' : dueAtEnd flagq s = s.due := perSlot_ext fun i => by simp [hflag]
  have hovf' : ovfAtEnd flagq ovfq s = s.ovf := perSlot_ext fun i => by simp [hflag, hovf]
  rw [tickOutcome_of_run htu, hdue', hovf']
  rfl

theorem queuesDisjoint_tickFlag (hdisjoint : QueuesDisjoint s) (i : Slot) : QueuesDisjoint (tickFlag i s) := by
  rintro _ _ htu' j hj
  rw [tickFlag_tu i htu] at htu'
  cases htu'
  obtain ⟨hj, hji⟩ := (slotGet_remove_iff flagq i j).mp hj
  rw [← Bool.not_eq_true, slotGet_missed_iff]
  simp [hdisjoint flagq ovfq htu j hj, hji]

theorem queuesDisjoint_tickOvf (hdisjoint : QueuesDisjoint s) (i : Slot) : QueuesDisjoint (tickOvf i s) := by
  rintro _ _ htu' j hj
  rw [tickOvf_tu i htu] at htu'
  cases htu'
  rw [← Bool.not_eq_true, slotGet_remove_iff]
  simp [hdisjoint flagq ovfq htu j hj]

end

theorem queuesDisjoint_of_idle {s : State} (h : s.tu = .idle) : QueuesDisjoint s := by
  simp [QueuesDisjoint, h]

theorem queuesDisjoint_tickBegin (s : State) : QueuesDisjoint (tickBegin s) := by
  rintro _ _ htu i -
  cases htu
  exact slotGet_noSlots i

theorem runMove_keeps_tickOutcome {s t : State} {m : Move} (hdisjoint : QueuesDisjoint s) (hm : m ∈ tickMoves s)
    (h : runMove m s = .next t) : QueuesDisjoint t ∧ tickOutcome t = tickOutcome s := by
  obtain ⟨flagq, ovfq, htu, ⟨i, rfl, hi, -⟩ | ⟨i, rfl, hi⟩ | ⟨rfl, hflag, hovf⟩⟩ := mem_tickMoves hm <;> cases h
  · exact ⟨queuesDisjoint_tickFlag htu hdisjoint i, tickOutcome_tickFlag htu hdisjoint hi⟩
  · exact ⟨queuesDisjoint_tickOvf htu hdisjoint i, tickOutcome_tickOvf htu hdisjoint hi⟩
  · refine ⟨queuesDisjoint_of_idle rfl, ?_⟩
    rw [tickOutcome_of_idle (tickEnd_tu s),
      tickOutcome_eq_tickEnd htu ((isEmptySet_iff _).mp hflag) ((isEmptySet_iff _).mp hovf)]

/-! ### Runs of the tick unit -/

theorem runTickMoves_cons_eq_some {m : Move} {ms : List Move} {s t : State} :
    runTickMoves (m :: ms) s = some t ↔
      m ∈ tickMoves s ∧ ∃ u, runMove m s = .next u ∧ runTickMoves ms u = some t := by
  by_cases hm : m ∈ tickMoves s
  · cases hrun : runMove m s <;> simp [runTickMoves, hm, hrun]
  · simp [runTickMoves, hm]

/-- Whatever the order of its steps, a TICK that ends with no other step between leaves its outcome (R97). -/
theorem runTickMoves_eq_tickOutcome {ms : List Move} {s t : State} (hdisjoint : QueuesDisjoint s)
    (hrun : runTickMoves ms s = some t) (hend : t.tu = .idle) : t = tickOutcome s := by
  induction ms generalizing s with
  | nil =>
    cases hrun
    exact (tickOutcome_of_idle hend).symm
  | cons m ms ih =>
    obtain ⟨hm, u, hmove, hrest⟩ := runTickMoves_cons_eq_some.mp hrun
    obtain ⟨hdisjoint', hsame⟩ := runMove_keeps_tickOutcome hdisjoint hm hmove
    exact (ih hdisjoint' hrest).trans hsame

theorem runMove_lessens_tickWork {s : State} {m : Move} (hm : m ∈ tickMoves s) :
    ∃ t, runMove m s = .next t ∧ tickWork t < tickWork s := by
  obtain ⟨flagq, ovfq, htu, ⟨i, rfl, hi, -⟩ | ⟨i, rfl, hi⟩ | ⟨rfl, -, -⟩⟩ := mem_tickMoves hm
  · exact ⟨_, rfl, tickWork_tickFlag_lt htu hi⟩
  · exact ⟨_, rfl, tickWork_tickOvf_lt htu hi⟩
  · exact ⟨_, rfl, tickWork_tickEnd_lt htu⟩

/-- The tick unit can run its TICK to the end in as many steps as `tickWork` bounds (R64). -/
theorem exists_runTickMoves {s : State} {n : Nat} (h : tickWork s ≤ n) :
    ∃ ms t, ms.length ≤ n ∧ runTickMoves ms s = some t ∧ t.tu = .idle := by
  induction n generalizing s with
  | zero => exact ⟨[], s, le_rfl, rfl, (tickWork_eq_zero_iff s).mp (Nat.le_zero.mp h)⟩
  | succ n ih =>
    by_cases htu : s.tu = .idle
    · exact ⟨[], s, Nat.zero_le _, rfl, htu⟩
    · obtain ⟨m, hm⟩ := exists_mem_tickMoves htu
      obtain ⟨u, hmove, hless⟩ := runMove_lessens_tickWork hm
      obtain ⟨ms, t, hlength, hrun, hend⟩ := ih (s := u) (by omega)
      exact ⟨m :: ms, t, Nat.succ_le_succ hlength, runTickMoves_cons_eq_some.mpr ⟨hm, u, hmove, hrun⟩, hend⟩

/-- A split TICK run to its end, from its acceptance by TICK_BEGIN. -/
theorem runTickMoves_tickBegin {ms : List Move} {s t : State} (hrun : runTickMoves ms (tickBegin s) = some t)
    (hend : t.tu = .idle) : t = ((tickAll s).setTickBy s.issuer).setTu .idle :=
  (runTickMoves_eq_tickOutcome (queuesDisjoint_tickBegin s) hrun hend).trans (tickOutcome_tickBegin s)

/-- Settles O31: every order of the steps ends in the outcome of TICK_BEGIN, and one of at most 17 steps ends. -/
theorem splitTickRefinesAtomicTick : Obligations.SplitTickRefinesAtomicTick := by
  unfold Obligations.SplitTickRefinesAtomicTick
  intro s htu hsplit
  refine ⟨tickBegin s, _, exec_tick_split htu hsplit, exec_tick_atomic (by exact htu) rfl, fun ms t hrun hend => ?_,
    exists_runTickMoves (tickWork_tickBegin_le s)⟩
  rw [runTickMoves_tickBegin hrun hend]
  exact ⟨⟨rfl, rfl, rfl, rfl, htu.symm, rfl, rfl⟩, rfl, rfl⟩

end Sys2Proof.Machine
end

section
/-! PROOF. The accumulation law of `n` whole TICKs (R101, R102, R103, R121): one TICK's account, added to that of
the rest. -/

namespace Sys2Proof.Machine

/-! ### One whole TICK -/

/-- What one whole TICK leaves, split or atomic: the registers as TICK_ALL does, and the mark and the parameters. -/
def WholeTick (s t : State) : Prop :=
  SameHardware (tickAll s) t ∧ t.refused = s.refused ∧ t.params = s.params

theorem wholeTick_tickAll (s : State) : WholeTick s (tickAll s) :=
  ⟨⟨rfl, rfl, rfl, rfl, rfl, rfl, rfl⟩, rfl, rfl⟩

theorem wholeTick_of_split {s : State} (htu : s.tu = .idle) :
    WholeTick s (((tickAll s).setTickBy s.issuer).setTu .idle) :=
  ⟨⟨rfl, rfl, rfl, rfl, htu.symm, rfl, rfl⟩, rfl, rfl⟩

/-- A TICK run to its end is a whole TICK, under either setting of `TICK_ATOMIC` and in any schedule. -/
theorem wholeTick_of_run {ms : List Move} {s begun t : State} (htu : s.tu = .idle) (hexec : exec .tick s = .next begun)
    (hrun : runTickMoves ms begun = some t) (hend : t.tu = .idle) : WholeTick s t := by
  cases hatomic : s.params.tickAtomic with
  | true =>
    cases (exec_tick_atomic htu hatomic).symm.trans hexec
    have hbegun : (tickAll s).tu = .idle := htu
    rw [runTickMoves_eq_tickOutcome (queuesDisjoint_of_idle hbegun) hrun hend, tickOutcome_of_idle hbegun]
    exact wholeTick_tickAll s
  | false =>
    cases (exec_tick_split htu hatomic).symm.trans hexec
    rw [runTickMoves_tickBegin hrun hend]
    exact wholeTick_of_split htu

/-- Some schedule of at most 17 moves after the acceptance takes a whole TICK. -/
theorem exists_run_of_tick {s : State} (htu : s.tu = .idle) :
    ∃ begun ms t, exec .tick s = .next begun ∧ ms.length ≤ 17 ∧ runTickMoves ms begun = some t ∧ t.tu = .idle := by
  have hexec : exec .tick s = .next _ := execTick_idle htu
  obtain ⟨ms, t, hrun⟩ := exists_runTickMoves (tickWork_accepted_le htu hexec)
  exact ⟨_, ms, t, hexec, hrun⟩

theorem WholeTick.inv {s t : State} (h : WholeTick s t) (htu : s.tu = .idle) (hinv : s.Inv) : t.Inv := by
  obtain ⟨⟨htick, -, -, -, htu', -, -⟩, -, hparams⟩ := h
  exact inv_of_same_tick_tu htick htu' hparams (inv_tickAll htu hinv)

/-! ### The count of activations (R101) -/

/-- The rollover at `TPS` is the count modulo `TPS` (R96). -/
theorem rollover_tick_succ_toNat {t : TickCount} {p : Params} (h : t.toNat < tps p) :
    (rollover p (t + 1)).toNat = (t.toNat + 1) % tps p := by
  have hsucc := tick_succ_toNat h
  rcases Nat.lt_or_eq_of_le (show t.toNat + 1 ≤ tps p from h) with hlt | heq
  · have hne : (t + 1).toNat ≠ tps p := by omega
    rw [Nat.mod_eq_of_lt hlt, rollover, if_neg (by simpa using hne), hsucc]
  · have hmax : (t + 1).toNat = tps p := by omega
    have hroll : rollover p (t + 1) = 0 := if_pos (by simpa using hmax)
    rw [hroll, heq, Nat.mod_self]
    rfl

/-- The quotients by a divisor of `m` count alike from `t` and from `t mod m`. -/
theorem mod_add_div_sub_mod_div {m d : Nat} (hdvd : d ∣ m) (hpos : 0 < d) (t n : Nat) :
    (t % m + n) / d - t % m / d = (t + n) / d - t / d := by
  obtain ⟨c, rfl⟩ := hdvd
  have hsplit (k : Nat) : (t % (d * c) + d * c * (t / (d * c)) + k) / d
      = (t % (d * c) + k) / d + c * (t / (d * c)) := by
    rw [Nat.add_right_comm, Nat.mul_assoc, Nat.add_mul_div_left _ _ hpos]
  have hn := hsplit n
  have h0 := hsplit 0
  rw [Nat.mod_add_div] at hn h0
  simp only [Nat.add_zero] at h0
  rw [hn, h0, Nat.add_sub_add_right]

/-- The first of `n + 1` TICKs activates the slot where its lane of the comparator says so (R92). -/
theorem activations_succ {s u : State} (htick : s.tick.toNat < tps s.params) (h : WholeTick s u) (n : Nat)
    (i : Slot) :
    activations s (n + 1) i = (lane s.params (s.tick + 1) i).toNat + activations u n i := by
  obtain ⟨⟨hu, -⟩, -, hparams⟩ := h
  have hlane : (s.tick.toNat + 1) / interval s.params i =
      s.tick.toNat / interval s.params i + (lane s.params (s.tick + 1) i).toNat := by
    rw [Nat.succ_div, lane, tick_succ_toNat htick]
    simp [Nat.dvd_iff_mod_eq_zero, Bool.toNat, Bool.cond_eq_ite]
  have hmono : (s.tick.toNat + 1) / interval s.params i ≤ (s.tick.toNat + 1 + n) / interval s.params i :=
    Nat.div_le_div_right (Nat.le_add_right _ n)
  rw [activations, activations, hparams, hu, tickAll_tick, rollover_tick_succ_toNat htick,
    mod_add_div_sub_mod_div (interval_dvd_tps _ _) (interval_pos _ _), ← Nat.add_assoc,
    Nat.add_right_comm]
  omega

/-- R102, R103: the first of `n + 1` TICKs misses where it activates the slot and finds its flag set. -/
theorem misses_succ {s u : State} (htick : s.tick.toNat < tps s.params) (h : WholeTick s u) (n : Nat) (i : Slot) :
    misses s (n + 1) i = misses u n i + (lane s.params (s.tick + 1) i && slotGet s.due i).toNat := by
  have hact := activations_succ htick h n i
  obtain ⟨⟨-, hdue, -⟩, -, -⟩ := h
  rw [misses, misses, hact, hdue, tickAll_due, slotGet_dueAfter]
  cases lane s.params (s.tick + 1) i <;> cases slotGet s.due i <;> simp [Nat.add_comm]

/-! ### The increments of a counter (R95) -/

theorem inc_iterate_toNat (p : OvfPolicy) (v : Count) (k : Nat) (h : v.toNat + k ≤ 2 ^ 32 - 1) :
    ((inc p)^[k] v).toNat = v.toNat + k := by
  induction k with
  | zero => rfl
  | succ k ih =>
    have hk := ih (by omega)
    rw [Function.iterate_succ_apply', inc_toNat_of_lt p (by omega), hk, Nat.add_assoc]

/-! ### `n` whole TICKs -/

theorem afterTicks_zero {s : State} (htu : s.tu = .idle) (hinv : s.Inv) : AfterTicks 0 s s := by
  have htick := (inv_iff_of_idle htu).mp hinv
  have hact (i : Slot) : activations s 0 i = 0 := by simp [activations]
  have hmiss (i : Slot) : misses s 0 i = 0 := by simp [misses, hact]
  exact ⟨(Nat.mod_eq_of_lt htick).symm, fun i => by simp [hact, hmiss], htu, rfl, rfl, rfl, rfl, rfl⟩

/-- One whole TICK and then `n` are `n + 1`. -/
theorem afterTicks_succ {s u t : State} {n : Nat} (htu : s.tu = .idle) (hinv : s.Inv) (hfirst : WholeTick s u)
    (hrest : AfterTicks n u t) : AfterTicks (n + 1) s t := by
  have htick := (inv_iff_of_idle htu).mp hinv
  have hact := activations_succ htick hfirst n
  have hmiss := misses_succ htick hfirst n
  obtain ⟨⟨hutick, hudue, huovf, hucb, -, huds, husnap⟩, hurefused, huparams⟩ := hfirst
  obtain ⟨httick, hslots, httu, htcb, htds, htsnap, htrefused, htparams⟩ := hrest
  refine ⟨?_, fun i => ?_, httu, htcb.trans hucb, htds.trans huds, htsnap.trans husnap, htrefused.trans hurefused,
    htparams.trans huparams⟩
  · rw [httick, huparams, hutick, tickAll_tick, rollover_tick_succ_toNat htick, Nat.mod_add_mod, Nat.add_right_comm,
      Nat.add_assoc]
  · obtain ⟨hdue, hovf, -⟩ := hslots i
    have hcounter : slotGet t.ovf i = (inc s.params.ovfPolicy)^[misses s (n + 1) i] (slotGet s.ovf i) := by
      rw [hovf, huparams, huovf, tickAll_ovf, slotGet_ovfAfter, hmiss]
      cases lane s.params (s.tick + 1) i && slotGet s.due i <;> rfl
    refine ⟨?_, hcounter, fun hmax => hcounter ▸ inc_iterate_toNat _ _ _ hmax⟩
    rw [hdue, hudue, tickAll_due, slotGet_dueAfter, hact]
    cases lane s.params (s.tick + 1) i <;> simp

theorem runWholeTicks_cons_eq_some {ms : List Move} {rest : List (List Move)} {s t : State} :
    runWholeTicks (ms :: rest) s = some t ↔ ∃ begun u, exec .tick s = .next begun ∧
      runTickMoves ms begun = some u ∧ u.tu = .idle ∧ runWholeTicks rest u = some t := by
  cases hexec : exec .tick s with
  | fault r | refused r => simp [runWholeTicks, hexec]
  | next begun =>
    cases hrun : runTickMoves ms begun with
    | none => simp [runWholeTicks, hexec, hrun]
    | some u => simp [runWholeTicks, hexec, hrun, ← tickRunning_eq_false_iff]

theorem afterTicks_of_runWholeTicks {schedules : List (List Move)} {s t : State} (htu : s.tu = .idle) (hinv : s.Inv)
    (hrun : runWholeTicks schedules s = some t) : AfterTicks schedules.length s t := by
  induction schedules generalizing s with
  | nil =>
    cases hrun
    exact afterTicks_zero htu hinv
  | cons ms rest ih =>
    obtain ⟨begun, u, hexec, hmoves, hend, hrest⟩ := runWholeTicks_cons_eq_some.mp hrun
    have hfirst := wholeTick_of_run htu hexec hmoves hend
    exact afterTicks_succ htu hinv hfirst (ih hend (hfirst.inv htu hinv) hrest)

theorem exists_runWholeTicks {s : State} (n : Nat) (htu : s.tu = .idle) :
    ∃ schedules t, schedules.length = n ∧ (∀ ms ∈ schedules, ms.length ≤ 17) ∧
      runWholeTicks schedules s = some t := by
  induction n generalizing s with
  | zero => exact ⟨[], s, rfl, by simp, rfl⟩
  | succ n ih =>
    obtain ⟨begun, ms, u, hexec, hlength, hmoves, hend⟩ := exists_run_of_tick htu
    obtain ⟨rest, t, hn, hshort, hrest⟩ := ih hend
    exact ⟨ms :: rest, t, by simp [hn], by simpa [hlength] using hshort,
      runWholeTicks_cons_eq_some.mpr ⟨begun, u, hexec, hmoves, hend, hrest⟩⟩

theorem exists_runCommands_ticks {s : State} (n : Nat) (htu : s.tu = .idle) (hinv : s.Inv)
    (hatomic : s.params.tickAtomic = true) :
    ∃ t, runCommands (List.replicate n .tick) s = some t ∧ AfterTicks n s t := by
  induction n generalizing s with
  | zero => exact ⟨s, rfl, afterTicks_zero htu hinv⟩
  | succ n ih =>
    obtain ⟨t, hrun, hafter⟩ := ih (s := tickAll s) htu (inv_tickAll htu hinv) hatomic
    refine ⟨t, ?_, afterTicks_succ htu hinv (wholeTick_tickAll s) hafter⟩
    simpa [List.replicate_succ, runCommands, exec_tick_atomic htu hatomic] using hrun

/-- Settles O32, by induction on the number of TICKs: the first is a whole TICK, which leaves the invariant and `T_IDLE`
for the others, and their activations and misses add up. -/
theorem accumulationLawOfTicks : Obligations.AccumulationLawOfTicks := by
  unfold Obligations.AccumulationLawOfTicks
  intro s n htu hinv
  refine ⟨?_, exists_runWholeTicks n htu, exists_runCommands_ticks n htu hinv⟩
  rintro schedules t rfl hrun
  exact afterTicks_of_runWholeTicks htu hinv hrun

end Sys2Proof.Machine
end

section
/-! PROOF. The dispatch family step by step (R110 to R119): what DISPATCH, SCAN, SCAN_END and CBRET do and leave unchanged,
which commands are refused, and which go on during a pass. -/

namespace Sys2Proof.Machine

/-! ### DISPATCH (R111) -/

theorem exec_dispatch_idle {s : State} (hds : s.ds = .idle) : exec .dispatch s = .next (dispatchAccept s) := by
  simp [exec, execDispatch, passRunning, hds]

theorem exec_dispatch_busy {s : State} (hds : s.ds ≠ .idle) :
    exec .dispatch s = .next (refuse .dispatchBusy s) := by
  cases hrun : s.ds with
  | idle => exact absurd hrun hds
  | scan cur | await c h => simp [exec, execDispatch, passRunning, hrun]

/-- What `refuse` does to the ports, in the words of the frame (R13, R151). -/
theorem commandTaken_refuse (why : RefuseReason) (s : State) : CommandTaken (.refused why) s (refuse why s) :=
  commandTaken_retire (.refused why) s

theorem sameBookkeeping_refuse (why : RefuseReason) (s : State) : SameBookkeeping s (refuse why s) :=
  ⟨rfl, rfl, rfl, rfl, rfl, rfl⟩

/-- Settles O33: a DISPATCH with no pass in progress is DISPATCH_ACCEPT. -/
theorem dispatchAcceptEffect : Obligations.DispatchAcceptEffect := by
  unfold Obligations.DispatchAcceptEffect
  exact fun s hds => ⟨dispatchAccept s, exec_dispatch_idle hds, rfl, rfl, rfl, rfl, rfl, rfl, rfl, rfl,
    commandTaken_retire .nothing s, rfl, rfl, rfl, rfl, rfl, rfl⟩

/-- Settles O34: a DISPATCH during a pass is refused, and a refusal writes the port and the mark alone. -/
theorem nestedDispatchIsRefused : Obligations.NestedDispatchIsRefused := by
  unfold Obligations.NestedDispatchIsRefused
  exact fun s hds => ⟨refuse .dispatchBusy s, exec_dispatch_busy hds, refuse_sameHardware _ s, rfl,
    commandTaken_refuse _ s, sameBookkeeping_refuse _ s⟩

/-! ### CBRET (R114) and the INVOKE it answers (R110) -/

theorem invokeOut_eq_none_iff (s : State) : invokeOut s = none ↔ ∀ c h, s.ds ≠ .await c h := by
  unfold invokeOut
  cases s.ds <;> simp

theorem exists_await_of_invokeOut {s : State} (h : invokeOut s ≠ none) : ∃ c r, s.ds = .await c r := by
  simpa [invokeOut_eq_none_iff] using h

theorem exec_cbret_await {s : State} {c : Slot} {h : Handler} (hds : s.ds = .await c h) :
    exec .cbret s = .next ((retire .done s).setDs (.scan c.succ)) := by
  simp [exec, execCbret, hds]

theorem exec_cbret_stray {s : State} (h : invokeOut s = none) :
    exec .cbret s = .next (refuse .cbretUnexpected s) := by
  cases hds : s.ds with
  | idle | scan cur => simp [exec, execCbret, hds]
  | await c r => exact absurd hds ((invokeOut_eq_none_iff s).mp h c r)

/-- Settles O37: in `D_AWAIT` a CBRET ends and moves the cursor on. -/
theorem cbretEffect : Obligations.CbretEffect := by
  unfold Obligations.CbretEffect
  exact fun s c h hds => ⟨(retire .done s).setDs (.scan c.succ), exec_cbret_await hds, rfl, rfl, rfl, rfl, rfl, rfl,
    rfl, rfl, rfl, commandTaken_retire .done s, rfl, rfl, rfl, rfl, rfl, rfl⟩

/-- Settles O38: a CBRET outside `D_AWAIT` is refused, and a refusal writes the port and the mark alone. -/
theorem strayCbretIsRefused : Obligations.StrayCbretIsRefused := by
  unfold Obligations.StrayCbretIsRefused
  exact fun s hout => ⟨refuse .cbretUnexpected s, exec_cbret_stray hout, refuse_sameHardware _ s, rfl,
    commandTaken_refuse _ s, sameBookkeeping_refuse _ s⟩

/-- Settles O39: of the changes a step can make to the sequencer, only a CBRET's starts in `D_AWAIT`. -/
theorem invokeStaysUntilCbret : Obligations.InvokeStaysUntilCbret := by
  unfold Obligations.InvokeStaysUntilCbret
  intro s t c h hds hstep
  rcases step_ds_cases hstep with hsame | ⟨hidle, -⟩ | ⟨c', hscan, -⟩ | ⟨c', h', hawait, ht, hperf⟩ | ⟨hend, -⟩
  · exact .inl (hsame.trans hds)
  · cases hds.symm.trans hidle
  · cases hds.symm.trans hscan
  · cases hds.symm.trans hawait
    exact .inr ⟨ht, hperf⟩
  · cases hds.symm.trans hend

/-! ### The sequencer's moves (R112, R113) -/

/-- The sequencer's moves are exactly those whose guards hold. -/
theorem mem_seqMoves_iff {s : State} {m : Move} :
    m ∈ seqMoves s ↔
      (∃ c v, m = .scan v ∧ s.ds = .scan c.castSucc ∧ v ∈ views s c) ∨ (m = .scanEnd ∧ s.ds = .scan 8) := by
  refine ⟨mem_seqMoves, ?_⟩
  rintro (⟨c, v, rfl, hds, hv⟩ | ⟨rfl, hds⟩)
  · simp [seqMoves, hds, hv]
  · simp [seqMoves, hds, cursorSlot_eq_none_iff.mpr rfl]

/-- A step of no host agent and not of the tick unit is enabled where it is one of the sequencer's. -/
theorem mem_enabled_iff_mem_seqMoves {m : Move} (s : State) (hhost : ∀ a, m ≠ .host a)
    (hflag : ∀ i, m ≠ .tickFlag i) (hovf : ∀ i, m ≠ .tickOvf i) (hend : m ≠ .tickEnd) :
    m ∈ enabled s ↔ m ∈ seqMoves s := by
  refine ⟨fun h => ?_, fun h => mem_enabled.mpr (.inr (.inr h))⟩
  rcases mem_enabled.mp h with hm | hm | hm
  · obtain ⟨a, w, rfl, -⟩ := mem_hostMoves hm
    exact absurd rfl (hhost a)
  · obtain ⟨-, -, -, ⟨i, rfl, -⟩ | ⟨i, rfl, -⟩ | ⟨rfl, -⟩⟩ := mem_tickMoves hm
    · exact absurd rfl (hflag i)
    · exact absurd rfl (hovf i)
    · exact absurd rfl hend
  · exact hm

theorem scan_mem_enabled_iff (s : State) (v : View) :
    .scan v ∈ enabled s ↔ ∃ c, s.ds = .scan c.castSucc ∧ v ∈ views s c := by
  rw [mem_enabled_iff_mem_seqMoves (m := .scan v) s nofun nofun nofun nofun, mem_seqMoves_iff]
  simp

theorem scanEnd_mem_enabled_iff (s : State) : .scanEnd ∈ enabled s ↔ s.ds = .scan 8 := by
  rw [mem_enabled_iff_mem_seqMoves (m := .scanEnd) s nofun nofun nofun nofun, mem_seqMoves_iff]
  simp

theorem scan_mem_enabled_at {s : State} {c : Slot} (hds : s.ds = .scan c.castSucc) (v : View) :
    .scan v ∈ enabled s ↔ v ∈ views s c := by
  simp [scan_mem_enabled_iff, hds]

theorem exists_scan_mem_enabled_iff (s : State) :
    (∃ v, .scan v ∈ enabled s) ↔ ∃ c : Slot, s.ds = .scan c.castSucc := by
  constructor
  · rintro ⟨v, hv⟩
    obtain ⟨c, hds, -⟩ := (scan_mem_enabled_iff s v).mp hv
    exact ⟨c, hds⟩
  · rintro ⟨c, hds⟩
    obtain ⟨v, hv⟩ := exists_mem_views s c
    exact ⟨v, (scan_mem_enabled_at hds v).mpr hv⟩

/-- Under `EITHER` a SCAN of a due slot may read each of the two callbacks: where one view is left out, they agree. -/
theorem exists_view_iff_of_either {s : State} {c : Slot} (hvis : s.params.regVisibility = .either)
    (hdue : slotGet s.due c = true) (x : Callback) :
    (∃ v, v ∈ views s c ∧ callbackFor v c s = x) ↔ x = slotGet s.cb c ∨ x = slotGet s.cbsnap c := by
  by_cases hsame : slotGet s.cb c = slotGet s.cbsnap c
  · have hviews : views s c = [.live] := by simp [views, hvis, hsame]
    simp [hviews, callbackFor, hsame, eq_comm]
  · have hviews : views s c = [.live, .snapshot] := by simp [views, hvis, hdue, hsame]
    simp [hviews, callbackFor, eq_comm]

/-! ### What a SCAN does (R112) -/

/-- Where a SCAN of slot `c` leaves the sequencer. -/
def dsAfterScan (v : View) (c : Slot) (s : State) : Sequencer :=
  if slotGet s.due c then
    match callbackFor v c s with
    | some h => .await c h
    | none => .scan c.succ
  else .scan c.succ

/-- SCAN(c) of any slot: the flag is cleared and the sequencer goes where flag and callback say. -/
theorem scan_at (v : View) {s : State} {c : Slot} (h : s.ds = .scan c.castSucc) :
    scan v s = (s.setDue (slotSet s.due c false)).setDs (dsAfterScan v c s) := by
  cases hdue : slotGet s.due c with
  | false => simp [scan_clear v h hdue, dsAfterScan, hdue]
  | true =>
    cases hcb : callbackFor v c s with
    | none => simp [scan_empty v h hdue hcb, dsAfterScan, hdue, hcb]
    | some r => simp [scan_invoke v h hdue hcb, dsAfterScan, hdue, hcb]

/-- Where the cursor is at no slot there is no SCAN. -/
theorem scan_elsewhere (v : View) {s : State} (h : ∀ c : Slot, s.ds ≠ .scan c.castSucc) : scan v s = s := by
  cases hds : s.ds with
  | idle | await c r => simp [scan, hds]
  | scan cur =>
    cases hcur : cursorSlot cur with
    | none => simp [scan, hds, hcur]
    | some c => exact absurd (hds.trans (cursorSlot_eq_some_iff.mp hcur ▸ rfl)) (h c)

/-- Settles O35: the guard and the callback values are those of `views`, the effect is that of `scan_at`. -/
theorem scanEffect : Obligations.ScanEffect := by
  unfold Obligations.ScanEffect
  refine fun s => ⟨exists_scan_mem_enabled_iff s, fun c hds => ⟨fun hdue x => ?_, fun v hnext => ?_⟩⟩
  · simp only [scan_mem_enabled_at hds]
    cases hvis : s.params.regVisibility with
    | live => simp [views, hvis, callbackFor, eq_comm]
    | snapshot => simp [views, hvis, callbackFor, eq_comm]
    | either => exact exists_view_iff_of_either hvis hdue x
  · have hdue := scan_due (s := usePlan s) v hds
    refine ⟨scan v (usePlan s), step_of_nextMove hnext, ?_, fun j hj => ?_,
      congrArg State.ds (scan_at (s := usePlan s) v hds), ?_⟩
    · rw [hdue, slotGet_slotSet_self]
    · rw [hdue, slotGet_slotSet_other _ _ hj.symm, usePlan_due]
    · simp [InternalStep]

/-- Settles O36: SCAN_END's guard is the cursor 8, and its effect the end of the pass and of its DISPATCH. -/
theorem scanEndEffect : Obligations.ScanEndEffect := by
  unfold Obligations.ScanEndEffect
  exact fun s => ⟨scanEnd_mem_enabled_iff s, fun hnext => ⟨scanEnd (usePlan s), step_of_nextMove hnext, rfl, rfl, rfl,
    rfl, rfl, rfl, rfl, commandCompleted_deliver s.passBy s, rfl, rfl, rfl, rfl, rfl, rfl, rfl⟩⟩

/-! ### The dispatch family and the tick unit's registers (R119) -/

section
variable (s : State) (x : TickCount) (y : PerSlot Count)

theorem scan_setTick_setOvf (v : View) :
    scan v ((s.setTick x).setOvf y) = ((scan v s).setTick x).setOvf y := by
  by_cases hslot : ∃ c : Slot, s.ds = .scan c.castSucc
  · obtain ⟨c, hds⟩ := hslot
    rw [scan_at v hds, scan_at (s := (s.setTick x).setOvf y) v hds]
    rfl
  · have hno := not_exists.mp hslot
    rw [scan_elsewhere v hno, scan_elsewhere v (s := (s.setTick x).setOvf y) hno]

theorem exec_dispatch_setTick_setOvf {t : State} (h : exec .dispatch s = .next t) :
    exec .dispatch ((s.setTick x).setOvf y) = .next ((t.setTick x).setOvf y) := by
  by_cases hds : s.ds = .idle
  · cases (exec_dispatch_idle hds).symm.trans h
    exact exec_dispatch_idle hds
  · cases (exec_dispatch_busy hds).symm.trans h
    exact exec_dispatch_busy hds

theorem exec_cbret_setTick_setOvf {t : State} (h : exec .cbret s = .next t) :
    exec .cbret ((s.setTick x).setOvf y) = .next ((t.setTick x).setOvf y) := by
  by_cases hout : invokeOut s = none
  · cases (exec_cbret_stray hout).symm.trans h
    exact exec_cbret_stray hout
  · obtain ⟨c, r, hds⟩ := exists_await_of_invokeOut hout
    cases (exec_cbret_await hds).symm.trans h
    exact exec_cbret_await hds

end

/-- Settles O56: no step of the dispatch family looks at the tick counter or the overflow counters. -/
theorem dispatchIgnoresTickAndCounters : Obligations.DispatchIgnoresTickAndCounters := by
  unfold Obligations.DispatchIgnoresTickAndCounters
  refine fun s x y v => ⟨scan_setTick_setOvf s x y v, rfl, ?_⟩
  rintro i t (rfl | rfl) h
  · exact exec_dispatch_setTick_setOvf s x y h
  · exact exec_cbret_setTick_setOvf s x y h

/-! ### The commands a pass admits (R115) -/

/-- An admitted command is performed, not refused, and only a CBRET moves the pass. -/
theorem exec_admitted {s : State} {i : Instr} (h : AdmittedInPass s i) :
    ∃ t, exec i s = .next t ∧ t.refused = s.refused ∧ (i ≠ .cbret → t.ds = s.ds) := by
  cases i with
  | tick =>
    cases hatomic : s.params.tickAtomic with
    | true => exact ⟨tickAll s, exec_tick_atomic h hatomic, rfl, fun _ => rfl⟩
    | false => exact ⟨tickBegin s, exec_tick_split h hatomic, rfl, fun _ => rfl⟩
  | dispatch => exact absurd h id
  | reg id r => exact ⟨_, rfl, writeCallback_refused _ _ s, fun _ => writeCallback_ds _ _ s⟩
  | unreg id => exact ⟨_, rfl, writeCallback_refused _ _ s, fun _ => writeCallback_ds _ _ s⟩
  | rdovf id =>
    exact ⟨_, congrArg Host.Outcome.next (respondSlot_slot ⟨id, h⟩ _ s), rfl, fun _ => rfl⟩
  | rddue id =>
    exact ⟨_, congrArg Host.Outcome.next (respondSlot_slot ⟨id, h⟩ _ s), rfl, fun _ => rfl⟩
  | cbret =>
    obtain ⟨c, r, hds⟩ := exists_await_of_invokeOut h
    exact ⟨_, exec_cbret_await hds, rfl, fun hne => absurd rfl hne⟩

/-- An admitted command is not held: it is no TICK, or no TICK runs (R100). -/
theorem isHeld_eq_false_of_admitted {s : State} {w : Word} {i : Instr} (hdecode : decode w = .ok i)
    (h : AdmittedInPass s i) : isHeld s w = false := by
  cases i with
  | tick => rw [isHeld_of_decode_tick hdecode, (tickRunning_eq_false_iff s).mpr h]
  | dispatch | reg | unreg | rdovf | rddue | cbret => simp [isHeld, hdecode]

/-- A free agent whose next command is not held has a step (R162). -/
theorem host_mem_enabled {s : State} {a : HostAgent} {w : Word} {rest : List Word}
    (hcmds : (getPort s.ports a).cmds = w :: rest) (hfree : mayPresent s a = true) (hheld : isHeld s w = false) :
    .host a ∈ enabled s := by
  have hagent : a ∈ hostAgents := by cases a <;> decide
  have hpresented : presented s a = some w := by simp [presented, hcmds, hfree, hheld]
  exact mem_enabled.mpr (.inl (by simp [hostMoves, hagent, hpresented]))

/-- Settles O59: an admitted command is performed, in a free agent's step as by itself, and a unit's steps are enabled
whatever the other unit does. -/
theorem commandsAreAdmittedDuringAPass : Obligations.CommandsAreAdmittedDuringAPass := by
  unfold Obligations.CommandsAreAdmittedDuringAPass
  refine fun s _ => ⟨fun m hm => mem_enabled.mpr (.inr (.inl hm)), fun i hadmitted => ⟨exec_admitted hadmitted, ?_⟩⟩
  intro a w rest hcmds hdecode hfree
  refine ⟨host_mem_enabled hcmds hfree (isHeld_eq_false_of_admitted hdecode hadmitted), fun hnext => ?_⟩
  rw [step_host hnext hcmds, runWord_of_decode_ok hdecode]
  exact exec_admitted (s := (usePlan s).setIssuer a) hadmitted

end Sys2Proof.Machine
end

section
/-! PROOF. A whole pass with no concurrent step (R112, R117, R118, R122): the slots from the cursor on, served one by one. -/

namespace Sys2Proof.Machine

/-! ### What serving slots leaves unchanged, and which INVOKE a slot calls for -/

/-- What a pass and the CBRETs that answer it leave unchanged (R119), its own registers apart. -/
def PassFrame (s t : State) : Prop :=
  t.tick = s.tick ∧ t.ovf = s.ovf ∧ t.cb = s.cb ∧ t.tu = s.tu ∧ t.cbsnap = s.cbsnap ∧ t.refused = s.refused

theorem PassFrame.trans {s t u : State} (h : PassFrame s t) (h' : PassFrame t u) : PassFrame s u := by
  obtain ⟨htick, hovf, hcb, htu, hsnap, hrefused⟩ := h
  obtain ⟨htick', hovf', hcb', htu', hsnap', hrefused'⟩ := h'
  exact ⟨htick'.trans htick, hovf'.trans hovf, hcb'.trans hcb, htu'.trans htu, hsnap'.trans hsnap,
    hrefused'.trans hrefused⟩

/-- The INVOKE that slot `c` calls for: one where it is due and has a callback (R112, R118). -/
def invokeFor (s : State) (c : Slot) : Option (Slot × Handler) :=
  if slotGet s.due c then (slotGet s.cb c).map (fun h => (c, h)) else none

/-- `t` is the end, and `invokes` the requests, of a pass that in `s` still has the slots from `start` on to serve. -/
structure PassServed (start : Nat) (s t : State) (invokes : List (Slot × Handler)) : Prop where
  ended : t.ds = .idle
  cleared : ∀ i : Slot, start ≤ i.val → slotGet t.due i = false
  kept : ∀ i : Slot, i.val < start → slotGet t.due i = slotGet s.due i
  requests : invokes = (slots.drop start).filterMap (invokeFor s)
  frame : PassFrame s t

/-! ### The service of one slot -/

/-- Slot `c` is served in `u`: its flag is clear, the cursor stands behind it, and the rest is as in `s`. -/
structure SlotServed (c : Slot) (s u : State) : Prop where
  ds : u.ds = .scan c.succ
  due : u.due = slotSet s.due c false
  frame : PassFrame s u

theorem servicePass_scan (v : View) {s : State} {c : Slot} (n : Nat) (hds : s.ds = .scan c.castSucc) :
    servicePass v (n + 1) s = servicePass v n (scan v s) := by
  simp [servicePass, hds, castSucc_ne_eight]

theorem servicePass_await (v : View) {s : State} {c : Slot} {h : Handler} (n : Nat) (hds : s.ds = .await c h) :
    servicePass v (n + 1) s =
      ((servicePass v n ((retire .done s).setDs (.scan c.succ))).1,
        (c, h) :: (servicePass v n ((retire .done s).setDs (.scan c.succ))).2) := by
  simp [servicePass, hds, exec_cbret_await hds]

theorem servicePass_idle (v : View) {s : State} (n : Nat) (hds : s.ds = .idle) : servicePass v n s = (s, []) := by
  cases n <;> simp [servicePass, hds]

theorem servicePass_end (v : View) {s : State} (n : Nat) (hds : s.ds = .scan 8) :
    servicePass v (n + 1) s = (scanEnd s, []) := by
  simp [servicePass, hds, servicePass_idle v n (scanEnd_ds s)]

/-- With `cb` as the snapshot has it, either view reads `cb[c]`. -/
theorem callbackFor_of_snapshot_current (v : View) (c : Slot) {s : State} (h : s.cbsnap = s.cb) :
    callbackFor v c s = slotGet s.cb c := by
  cases v <;> simp [callbackFor, h]

/-- A SCAN presents the INVOKE that its slot calls for, or moves the cursor on where it calls for none. -/
theorem dsAfterScan_cases (v : View) (c : Slot) {s : State} (hsnap : s.cbsnap = s.cb) :
    (invokeFor s c = none ∧ dsAfterScan v c s = .scan c.succ) ∨
    ∃ h, invokeFor s c = some (c, h) ∧ dsAfterScan v c s = .await c h := by
  have hread := callbackFor_of_snapshot_current v c hsnap
  cases hdue : slotGet s.due c with
  | false => exact .inl (by simp [invokeFor, dsAfterScan, hdue])
  | true =>
    cases hcb : slotGet s.cb c with
    | none => exact .inl (by simp [invokeFor, dsAfterScan, hdue, hread, hcb])
    | some h => exact .inr ⟨h, by simp [invokeFor, dsAfterScan, hdue, hread, hcb]⟩

/-- A slot is served in one step or, where it calls for an INVOKE, in two. -/
theorem servicePass_slot (v : View) {s : State} {c : Slot} (n : Nat) (hds : s.ds = .scan c.castSucc)
    (hsnap : s.cbsnap = s.cb) :
    ∃ u m, n ≤ m ∧ SlotServed c s u ∧
      servicePass v (n + 2) s = ((servicePass v m u).1, (invokeFor s c).toList ++ (servicePass v m u).2) := by
  have hscan := scan_at v hds
  rcases dsAfterScan_cases v c hsnap with ⟨hinvoke, hafter⟩ | ⟨h, hinvoke, hafter⟩ <;> rw [hafter] at hscan
  · refine ⟨scan v s, n + 1, Nat.le_succ n, ?_, ?_⟩
    · rw [hscan]
      exact ⟨rfl, rfl, rfl, rfl, rfl, rfl, rfl, rfl⟩
    · rw [servicePass_scan v (n + 1) hds, hinvoke]
      rfl
  · refine ⟨(retire .done (scan v s)).setDs (.scan c.succ), n, le_rfl, ?_, ?_⟩
    · rw [hscan]
      exact ⟨rfl, rfl, rfl, rfl, rfl, rfl, rfl, rfl⟩
    · rw [servicePass_scan v (n + 1) hds, servicePass_await v n (congrArg State.ds hscan), hinvoke]
      rfl

/-! ### From one slot to the whole pass -/

theorem drop_slots (c : Slot) : slots.drop c.val = c :: slots.drop (c.val + 1) := by
  revert c
  decide

theorem lt_of_mem_drop_slots {c j : Slot} (h : j ∈ slots.drop (c.val + 1)) : c < j := by
  revert c j
  decide

/-- The end of a pass: no slot is left to serve at cursor 8. -/
theorem passServed_scanEnd (s : State) : PassServed 8 s (scanEnd s) [] :=
  ⟨rfl, fun i hi => absurd hi (by omega), fun _ _ => rfl, rfl, rfl, rfl, rfl, rfl, rfl, rfl⟩

/-- Slot `c` served and then the rest is the pass from `c` on. -/
theorem PassServed.of_slot {c : Slot} {s u t : State} {invokes : List (Slot × Handler)} (hslot : SlotServed c s u)
    (hrest : PassServed (c.val + 1) u t invokes) : PassServed c.val s t ((invokeFor s c).toList ++ invokes) := by
  obtain ⟨-, hdue, hframe⟩ := hslot
  obtain ⟨hended, hcleared, hkept, hrequests, hframe'⟩ := hrest
  have hother {j : Slot} (hj : c ≠ j) : slotGet u.due j = slotGet s.due j := by
    rw [hdue, slotGet_slotSet_other _ _ hj]
  refine ⟨hended, fun i hi => ?_, fun i hi => ?_, ?_, hframe.trans hframe'⟩
  · rcases Nat.eq_or_lt_of_le hi with heq | hlt
    · rw [hkept i (by omega), hdue, Fin.ext heq, slotGet_slotSet_self]
    · exact hcleared i hlt
  · rw [hkept i (by omega), hother (Fin.ne_of_gt hi)]
  · have hsame : (slots.drop (c.val + 1)).filterMap (invokeFor u) =
        (slots.drop (c.val + 1)).filterMap (invokeFor s) := by
      obtain ⟨-, -, hcb, -⟩ := hframe
      refine List.filterMap_congr fun j hj => ?_
      rw [invokeFor, invokeFor, hother (lt_of_mem_drop_slots hj).ne, hcb]
    rw [hrequests, hsame, drop_slots, List.filterMap_cons]
    cases invokeFor s c <;> rfl

/-- The pass from the cursor on, in two steps for each slot left and the SCAN_END. -/
theorem passServed_servicePass (v : View) (cur : Fin 9) {s : State} {n : Nat} (hds : s.ds = .scan cur)
    (hsnap : s.cbsnap = s.cb) (hn : 2 * (8 - cur.val) + 1 ≤ n) :
    PassServed cur.val s (servicePass v n s).1 (servicePass v n s).2 := by
  induction cur using Fin.reverseInduction generalizing s n with
  | last =>
    obtain ⟨n, rfl⟩ := Nat.exists_eq_add_of_le' (show 1 ≤ n by omega)
    rw [servicePass_end v n hds]
    exact passServed_scanEnd s
  | cast c ih =>
    rw [Fin.val_castSucc] at hn ⊢
    obtain ⟨n, rfl⟩ := Nat.exists_eq_add_of_le' (show 2 ≤ n by omega)
    obtain ⟨u, m, hm, hslot, hpass⟩ := servicePass_slot v n hds hsnap
    obtain ⟨-, -, hcb, -, hcbsnap, -⟩ := hslot.frame
    have hrest := ih (n := m) hslot.ds (hcbsnap.trans (hsnap.trans hcb.symm)) (by rw [Fin.val_succ]; omega)
    rw [hpass]
    exact .of_slot hslot hrest

/-- Settles O41: the pass starts at slot 0 with the snapshot just loaded, and 17 steps are those of eight slots and the
SCAN_END. -/
theorem wholePassServesEveryDueSlot : Obligations.WholePassServesEveryDueSlot := by
  unfold Obligations.WholePassServesEveryDueSlot
  intro s v hds
  obtain ⟨hended, hcleared, -, hrequests, hframe⟩ :=
    passServed_servicePass v 0 (s := dispatchAccept s) (n := 17) rfl rfl (by decide)
  exact ⟨dispatchAccept s, _, _, exec_dispatch_idle hds, rfl, hended, fun i => hcleared i (Nat.zero_le _), hrequests,
    hframe⟩

end Sys2Proof.Machine
end

section
/-! PROOF. Registration and introspection (R130 to R134): what REG, UNREG, RDOVF and RDDUE do and leave unchanged, and which
reads are refused. -/

namespace Sys2Proof.Machine

/-! ### REG and UNREG (R130, R131, R134) -/

theorem slotGet_writeCallback_cb (id : Nat) (x : Callback) (s : State) (i : Slot) :
    slotGet (writeCallback id x s).cb i = if i.val = id then x else slotGet s.cb i := by
  rcases Nat.lt_or_ge id 8 with hid | hid
  · have hcb : (writeCallback id x s).cb = slotSet s.cb ⟨id, hid⟩ x :=
      congrArg State.cb (writeCallback_slot ⟨id, hid⟩ x s)
    simp [hcb, slotGet_slotSet, Fin.ext_iff, eq_comm]
  · have hi : i.val ≠ id := by omega
    simp [writeCallback_out x s hid, hi]

theorem commandTaken_writeCallback (id : Nat) (x : Callback) (s : State) :
    CommandTaken .done s (writeCallback id x s) := by
  have hports : (writeCallback id x s).ports = (retire .done s).ports := by
    unfold writeCallback
    split <;> rfl
  unfold CommandTaken
  rw [hports]
  exact commandTaken_retire .done s

theorem sameBookkeeping_writeCallback (id : Nat) (x : Callback) (s : State) :
    SameBookkeeping s (writeCallback id x s) :=
  ⟨writeCallback_params id x s, writeCallback_issuer id x s, writeCallback_tickBy id x s, writeCallback_passBy id x s,
    writeCallback_plan id x s, writeCallback_draws id x s⟩

/-- The INVOKE output looks at `DS` alone (R110), which REG and UNREG leave. -/
theorem invokeOut_writeCallback (id : Nat) (x : Callback) (s : State) :
    invokeOut (writeCallback id x s) = invokeOut s := by
  simp [invokeOut]

/-- Settles O42: REG is the write of `SOME(h)`. -/
theorem regEffect : Obligations.RegEffect := by
  unfold Obligations.RegEffect
  exact fun s id h => ⟨writeCallback id (some h) s, rfl, slotGet_writeCallback_cb id _ s, writeCallback_tick _ _ _,
    writeCallback_due _ _ _, writeCallback_ovf _ _ _, writeCallback_tu _ _ _, writeCallback_ds _ _ _,
    writeCallback_cbsnap _ _ _, writeCallback_refused _ _ _, commandTaken_writeCallback id _ s,
    sameBookkeeping_writeCallback id _ s⟩

/-- Settles O43: UNREG is the write of `NONE`. -/
theorem unregEffect : Obligations.UnregEffect := by
  unfold Obligations.UnregEffect
  exact fun s id => ⟨writeCallback id none s, rfl, slotGet_writeCallback_cb id _ s, writeCallback_tick _ _ _,
    writeCallback_due _ _ _, writeCallback_ovf _ _ _, writeCallback_tu _ _ _, writeCallback_ds _ _ _,
    writeCallback_cbsnap _ _ _, invokeOut_writeCallback id _ s, writeCallback_refused _ _ _,
    commandTaken_writeCallback id _ s, sameBookkeeping_writeCallback id _ s⟩

/-! ### RDOVF and RDDUE (R132, R133) -/

theorem exec_rdovf_slot (i : Slot) (s : State) :
    exec (.rdovf i.val) s = .next (retire (.value (slotGet s.ovf i)) s) :=
  congrArg Host.Outcome.next (respondSlot_slot i _ s)

theorem exec_rddue_slot (i : Slot) (s : State) :
    exec (.rddue i.val) s = .next (retire (.value (dueWord (slotGet s.due i))) s) :=
  congrArg Host.Outcome.next (respondSlot_slot i _ s)

theorem exec_read_out {id : Nat} {i : Instr} (hid : 8 ≤ id) (hi : i = .rdovf id ∨ i = .rddue id) (s : State) :
    exec i s = .next (refuse .slotRange s) := by
  rcases hi with rfl | rfl
  · exact congrArg Host.Outcome.next (respondSlot_out _ s hid)
  · exact congrArg Host.Outcome.next (respondSlot_out _ s hid)

theorem retire_sameHardware (r : Reply) (s : State) : SameHardware s (retire r s) :=
  ⟨rfl, rfl, rfl, rfl, rfl, rfl, rfl⟩

theorem sameBookkeeping_retire (r : Reply) (s : State) : SameBookkeeping s (retire r s) :=
  ⟨rfl, rfl, rfl, rfl, rfl, rfl⟩

/-- Settles O44: RDOVF of a slot is the taking of the command with the counter as the reply. -/
theorem rdovfEffect : Obligations.RdovfEffect := by
  unfold Obligations.RdovfEffect
  exact fun s i => ⟨_, exec_rdovf_slot i s, retire_sameHardware _ s, retire_refused _ s, commandTaken_retire _ s,
    sameBookkeeping_retire _ s⟩

/-- Settles O45: RDDUE of a slot is the taking of the command with the flag's word as the reply. -/
theorem rddueEffect : Obligations.RddueEffect := by
  unfold Obligations.RddueEffect
  exact fun s i => ⟨_, exec_rddue_slot i s, retire_sameHardware _ s, retire_refused _ s, commandTaken_retire _ s,
    sameBookkeeping_retire _ s⟩

/-- Settles O46: a read of no slot is a refusal, which writes the port and the mark alone. -/
theorem outOfRangeReadIsRefused : Obligations.OutOfRangeReadIsRefused := by
  unfold Obligations.OutOfRangeReadIsRefused
  exact fun s id i hid hi => ⟨refuse .slotRange s, exec_read_out hid hi s, refuse_sameHardware _ s, refuse_refused _ s,
    commandTaken_refuse _ s, sameBookkeeping_refuse _ s⟩

end Sys2Proof.Machine
end

section
/-! PROOF. Which step may be next (R155, R162): the guard of a host agent's step, the plan that names a step, and the step
of a presented word. -/

namespace Sys2Proof.Machine

/-! ### The guard of a host agent's step (R100, R162) -/

/-- An agent with a command left has a step where it is free and the command is not held. -/
theorem host_mem_enabled_iff {s : State} {a : HostAgent} {w : Word} {rest : List Word}
    (hcmds : (getPort s.ports a).cmds = w :: rest) :
    .host a ∈ enabled s ↔ mayPresent s a = true ∧ isHeld s w = false := by
  refine ⟨fun h => ?_, fun ⟨hfree, hheld⟩ => host_mem_enabled hcmds hfree hheld⟩
  obtain ⟨w', hw'⟩ := presented_of_mem_enabled h
  obtain ⟨⟨rest', hcmds'⟩, hfree, hheld⟩ := presented_eq_some hw'
  obtain ⟨rfl, -⟩ : w = w' ∧ rest = rest' := by simpa using hcmds.symm.trans hcmds'
  exact ⟨hfree, hheld⟩

theorem host_not_mem_enabled {s : State} {a : HostAgent} (hcmds : (getPort s.ports a).cmds = []) :
    .host a ∉ enabled s := by
  intro h
  obtain ⟨w, hw⟩ := presented_of_mem_enabled h
  obtain ⟨⟨rest, hcmds'⟩, -⟩ := presented_eq_some hw
  simp [hcmds] at hcmds'

theorem tickRunning_eq_true_iff (s : State) : tickRunning s = true ↔ s.tu ≠ .idle := by
  rw [← Bool.not_eq_false, ne_eq, tickRunning_eq_false_iff]

theorem passRunning_eq_true_iff (s : State) : passRunning s = true ↔ s.ds ≠ .idle := by
  unfold passRunning
  cases s.ds <;> simp

theorem invokeOutstanding_eq_true_iff (s : State) : invokeOutstanding s = true ↔ invokeOut s ≠ none := by
  unfold invokeOutstanding invokeOut
  cases s.ds <;> simp

/-- Only a TICK is held, and only by one in progress (R100). -/
theorem isHeld_eq_false_iff (s : State) (w : Word) :
    isHeld s w = false ↔ ¬ (s.tu ≠ .idle ∧ decode w = .ok .tick) := by
  cases hdecode : decode w with
  | error e => simp [isHeld, hdecode]
  | ok i =>
    cases i with
    | tick => simp [isHeld_of_decode_tick hdecode, tickRunning_eq_false_iff]
    | dispatch | reg | unreg | rdovf | rddue | cbret => simp [isHeld, hdecode]

/-- `mayPresent` in the words of R162: no command of the agent is in progress, and the callback's commands come from the
context that `callbackContext` names. -/
theorem mayPresent_iff (s : State) (a : HostAgent) : mayPresent s a = true ↔
    ¬ (s.tu ≠ .idle ∧ s.tickBy = a) ∧
    (s.params.callbackContext = .shared →
      a ≠ .callback ∧ ¬ (s.ds ≠ .idle ∧ invokeOut s = none ∧ s.passBy = a)) ∧
    (s.params.callbackContext = .separate →
      ¬ (s.ds ≠ .idle ∧ s.passBy = a) ∧ (a = .callback → invokeOut s ≠ none)) := by
  have hwaits (busy : Bool) (user : HostAgent) : (!(busy && user == a)) = true ↔ ¬ (busy = true ∧ user = a) := by
    cases busy <;> simp
  unfold mayPresent
  rw [Bool.and_eq_true, hwaits, tickRunning_eq_true_iff]
  refine and_congr_right fun _ => ?_
  cases s.params.callbackContext with
  | shared =>
    simp only [Bool.and_eq_true, Bool.or_eq_true, hwaits, passRunning_eq_true_iff, invokeOutstanding_eq_true_iff,
      bne_iff_ne, true_implies, reduceCtorEq, false_implies, and_true]
    tauto
  | separate =>
    simp only [Bool.and_eq_true, Bool.or_eq_true, hwaits, passRunning_eq_true_iff, invokeOutstanding_eq_true_iff,
      bne_iff_ne, true_implies, reduceCtorEq, false_implies, true_and]
    tauto

/-- Settles O17: the guard of `enabled`, read in the registers. -/
theorem hostAgentStepsAreEnabled : Obligations.HostAgentStepsAreEnabled := by
  unfold Obligations.HostAgentStepsAreEnabled
  intro s a
  cases hcmds : (getPort s.ports a).cmds with
  | nil => simp [host_not_mem_enabled hcmds]
  | cons w rest =>
    rw [host_mem_enabled_iff hcmds, mayPresent_iff, isHeld_eq_false_iff]
    constructor
    · rintro ⟨⟨hwaits, hshared, hseparate⟩, hheld⟩
      exact ⟨w, rest, rfl, hwaits, hheld, hshared, hseparate⟩
    · rintro ⟨w', rest', hcmds', hwaits, hheld, hshared, hseparate⟩
      cases hcmds'
      exact ⟨⟨hwaits, hshared, hseparate⟩, hheld⟩

/-! ### The plan names the next step (R155) -/

/-- The enabled steps do not depend on the plan. -/
theorem enabled_setPlan (s : State) (p : List Move) : enabled (s.setPlan p) = enabled s := rfl

theorem nextMove_of_plan {s : State} {m : Move} {ms : List Move} (hplan : s.plan = m :: ms) (hm : m ∈ enabled s) :
    nextMove s = some m := by
  simp [nextMove, hplan, hm]

/-- Settles O16: a plan of one enabled step makes it the next, and only an enabled step is taken. -/
theorem anyEnabledStepMayBeNext : Obligations.AnyEnabledStepMayBeNext := by
  unfold Obligations.AnyEnabledStepMayBeNext
  intro s m
  constructor
  · intro hm
    exact ⟨[m], nextMove_of_plan (s := s.setPlan [m]) rfl hm⟩
  · rintro ⟨p, hnext⟩
    exact enabled_setPlan s p ▸ nextMove_mem hnext

/-! ### A presented word is run next -/

/-- Only the agent of the TICK or of the pass in progress may have to wait, beside `callback`. -/
theorem tickBy_or_passBy_of_not_mayPresent {s : State} {a : HostAgent} (ha : a ≠ .callback)
    (h : ¬ mayPresent s a = true) : s.tickBy = a ∨ s.passBy = a := by
  by_contra hneither
  obtain ⟨htick, hpass⟩ := not_or.mp hneither
  exact h ((mayPresent_iff s a).mpr ⟨fun hwaits => htick hwaits.2, fun _ => ⟨ha, fun hwaits => hpass hwaits.2.2⟩,
    fun _ => ⟨fun hwaits => hpass hwaits.2, fun hcallback => absurd hcallback ha⟩⟩)

/-- Two units keep at most two of the three agents waiting, so one of them is free. -/
theorem mayPresent_freeAgent (s : State) : mayPresent s (freeAgent s) = true := by
  unfold freeAgent
  split_ifs with hmain hmonitor
  · exact hmain
  · exact hmonitor
  · by_contra hsource
    have hmain' := tickBy_or_passBy_of_not_mayPresent (a := .mainLoop) nofun hmain
    have hmonitor' := tickBy_or_passBy_of_not_mayPresent (a := .monitor) nofun hmonitor
    have hsource' := tickBy_or_passBy_of_not_mayPresent (a := .tickSource) nofun hsource
    rcases hmain' with h | h <;> simp_all

theorem withFetchWord_toNat (s : State) (w : Word) : s.withFetchWord 32 w.toNat = present (freeAgent s) w s := by
  rw [State.withFetchWord, Nat.mod_eq_of_lt w.isLt, BitVec.ofNat_toNat, BitVec.setWidth_eq]

theorem present_cmds (a : HostAgent) (w : Word) (s : State) :
    (getPort (present a w s).ports a).cmds = w :: (getPort s.ports a).cmds := by
  simp [present]

/-- A free agent's presented word is what comes next: the plan says so, and the step is enabled. -/
theorem nextMove_present {s : State} {a : HostAgent} {w : Word} (hfree : mayPresent s a = true)
    (hheld : isHeld s w = false) : nextMove (present a w s) = some (.host a) :=
  nextMove_of_plan rfl (host_mem_enabled (present_cmds a w s) hfree hheld)

/-- Settles O15: the free agent's step is next, and it is the arrival of the word. -/
theorem presentedWordIsRunNext : Obligations.PresentedWordIsRunNext := by
  unfold Obligations.PresentedWordIsRunNext
  intro s w hheld
  rw [withFetchWord_toNat]
  exact step_host (nextMove_present (mayPresent_freeAgent s) hheld) (present_cmds _ w s)

end Sys2Proof.Machine
end

section
/-! PROOF. Commands and refusals (R13, R38, R150, R151): every command answers a next state, and which commands are refused,
which a host agent's step shows in the registers, in the mark and in the agent's port. -/

namespace Sys2Proof.Machine

/-! ### The block raises no exception (R150) -/

theorem exists_exec_next (i : Instr) (s : State) : ∃ t, exec i s = .next t := by
  cases i with
  | tick =>
    by_cases htu : s.tu = .idle
    · exact ⟨_, execTick_idle htu⟩
    · exact ⟨s, exec_tick_held htu⟩
  | dispatch | reg | unreg | rdovf | rddue => exact ⟨_, rfl⟩
  | cbret =>
    by_cases hout : invokeOut s = none
    · exact ⟨_, exec_cbret_stray hout⟩
    · obtain ⟨c, r, hds⟩ := exists_await_of_invokeOut hout
      exact ⟨_, exec_cbret_await hds⟩

/-- Settles O21: each meaning answers a next state in each of its branches. -/
theorem everyCommandAnswersANextState : Obligations.EveryCommandAnswersANextState := by
  unfold Obligations.EveryCommandAnswersANextState
  exact exists_exec_next

/-! ### The arrival of a word, refused or not (R76, R151) -/

/-- The table of R151 looks at the word and at the sequencer alone. -/
theorem refusedFor_congr {s t : State} (hds : t.ds = s.ds) (w : Word) (why : RefuseReason) :
    RefusedFor t w why ↔ RefusedFor s w why := by
  cases why <;> simp [RefusedFor, invokeOut_eq_none_iff, hds]

/-- A word that the table of R151 refuses is refused, for the table's reason. -/
theorem runWord_of_refusedFor {s : State} {w : Word} {why : RefuseReason} (h : RefusedFor s w why) (a : HostAgent) :
    runWord a w s = .next (refuse why (s.setIssuer a)) := by
  cases why with
  | reservedOpcode | reservedBits => simp [runWord, show decode w = _ from h, refuseReasonOf]
  | dispatchBusy =>
    obtain ⟨hdecode, hds⟩ := h
    rw [runWord_of_decode_ok hdecode]
    exact exec_dispatch_busy hds
  | cbretUnexpected =>
    obtain ⟨hdecode, hout⟩ := h
    rw [runWord_of_decode_ok hdecode]
    exact exec_cbret_stray hout
  | slotRange =>
    obtain ⟨id, hid, hdecode | hdecode⟩ := h
    · rw [runWord_of_decode_ok hdecode]
      exact exec_read_out hid (.inl rfl) _
    · rw [runWord_of_decode_ok hdecode]
      exact exec_read_out hid (.inr rfl) _

/-- A command that is accepted or performed, and not refused: the mark is as it was, and its agent is told no reason. -/
def Unrefused (s t : State) : Prop :=
  t.refused = s.refused ∧ ∃ r, CommandTaken r s t ∧ ∀ why, r ≠ .refused why

theorem Unrefused.reply_ne {s t : State} (h : Unrefused s t) (why : RefuseReason) :
    (getPort t.ports s.issuer).reply ≠ .refused why := by
  obtain ⟨-, r, ⟨hport, -⟩, hr⟩ := h
  rw [hport]
  exact hr why

theorem refusedFor_of_decode_error {w : Word} {e : DecodeError} (h : decode w = .error e) (s : State) :
    RefusedFor s w (refuseReasonOf e) := by
  cases e <;> exact h

/-- A command that the table of R151 does not refuse and that is not held is accepted or performed. -/
theorem exec_of_not_refusedFor {s t : State} {w : Word} {i : Instr} (hdecode : decode w = .ok i)
    (hno : ∀ why, ¬ RefusedFor s w why) (hheld : isHeld s w = false) (h : exec i s = .next t) : Unrefused s t := by
  rcases exec_cases h with
    ⟨rfl, htu, rfl⟩ | ⟨-, -, -, rfl⟩ | ⟨-, -, -, rfl⟩ | ⟨-, -, rfl⟩ | ⟨rfl, hds, rfl⟩ | ⟨id, x, -, rfl⟩ |
      ⟨id, f, hi, rfl⟩ | ⟨c, r, -, -, rfl⟩ | ⟨rfl, hds, rfl⟩
  · rw [isHeld_of_decode_tick hdecode, tickRunning_eq_false_iff] at hheld
    exact absurd hheld htu
  · exact ⟨rfl, .done, commandTaken_retire .done s, nofun⟩
  · exact ⟨rfl, .nothing, commandTaken_retire .nothing s, nofun⟩
  · exact ⟨rfl, .nothing, commandTaken_retire .nothing s, nofun⟩
  · exact absurd ⟨hdecode, hds⟩ (hno .dispatchBusy)
  · exact ⟨writeCallback_refused id x s, .done, commandTaken_writeCallback id x s, nofun⟩
  · have hid : id < 8 := by
      by_contra hge
      exact hno .slotRange ⟨id, not_lt.mp hge, by simpa [hdecode] using hi⟩
    rw [respondSlot_slot ⟨id, hid⟩ f s]
    exact ⟨rfl, _, commandTaken_retire _ s, nofun⟩
  · exact ⟨rfl, .done, commandTaken_retire .done s, nofun⟩
  · exact absurd ⟨hdecode, (invokeOut_eq_none_iff s).mpr hds⟩ (hno .cbretUnexpected)

theorem runWord_of_not_refusedFor {s t : State} {w : Word} {a : HostAgent} (hno : ∀ why, ¬ RefusedFor s w why)
    (hheld : isHeld s w = false) (h : runWord a w s = .next t) : Unrefused (s.setIssuer a) t := by
  rcases runWord_cases h with ⟨e, hdecode, -⟩ | ⟨i, hdecode, hexec⟩
  · exact absurd (refusedFor_of_decode_error hdecode s) (hno _)
  · have hno' (why : RefuseReason) := mt (refusedFor_congr (setIssuer_ds s a) w why).mp (hno why)
    exact exec_of_not_refusedFor hdecode hno' hheld hexec

/-! ### The steps that refuse (R151) -/

/-- Where the table of R151 refuses the word presented, the step is the refusal. -/
theorem step_of_refusedFor {s : State} {a : HostAgent} {w : Word} {rest : List Word} {why : RefuseReason}
    (hnext : nextMove s = some (.host a)) (hcmds : (getPort s.ports a).cmds = w :: rest) (h : RefusedFor s w why) :
    step s = .next (refuse why ((usePlan s).setIssuer a)) := by
  rw [step_host hnext hcmds]
  exact runWord_of_refusedFor ((refusedFor_congr (usePlan_ds s) w why).mpr h) a

/-- Where it does not, the step refuses nothing: the word is not held, or the step would not be enabled (R100). -/
theorem step_of_not_refusedFor {s t : State} {a : HostAgent} {w : Word} {rest : List Word}
    (hnext : nextMove s = some (.host a)) (hcmds : (getPort s.ports a).cmds = w :: rest)
    (hno : ∀ why, ¬ RefusedFor s w why) (hstep : step s = .next t) : Unrefused ((usePlan s).setIssuer a) t := by
  obtain ⟨-, hheld⟩ := (host_mem_enabled_iff hcmds).mp (nextMove_mem hnext)
  have hno' (why : RefuseReason) := mt (refusedFor_congr (usePlan_ds s) w why).mp (hno why)
  rw [step_host hnext hcmds] at hstep
  exact runWord_of_not_refusedFor hno' hheld hstep

/-- A step leaves the mark as it was, or it is the refusal of a word that the table of R151 refuses. -/
theorem step_refused_cases {s t : State} (h : step s = .next t) :
    t.refused = s.refused ∨
    ∃ a w rest why, nextMove s = some (.host a) ∧ (getPort s.ports a).cmds = w :: rest ∧ RefusedFor s w why ∧
      t = refuse why ((usePlan s).setIssuer a) := by
  rcases step_cases h with
    ⟨a, w, rest, hnext, hcmds, -, -, -⟩ | ⟨i, flagq, ovfq, -, -, -, -, rfl⟩ | ⟨i, flagq, ovfq, -, -, -, rfl⟩ |
      ⟨flagq, ovfq, -, -, -, -, rfl⟩ | ⟨c, v, -, -, -, rfl⟩ | ⟨-, -, rfl⟩
  case inl =>
    by_cases hwhy : ∃ why, RefusedFor s w why
    · obtain ⟨why, hwhy⟩ := hwhy
      cases (step_of_refusedFor hnext hcmds hwhy).symm.trans h
      exact .inr ⟨a, w, rest, why, hnext, hcmds, hwhy, rfl⟩
    · obtain ⟨hmark, -⟩ := step_of_not_refusedFor hnext hcmds (not_exists.mp hwhy) h
      exact .inl hmark
  all_goals exact .inl (by simp)

/-- Settles O48: a refusal sets the mark, and no other step writes it. -/
theorem refusalMarkIsNeverCleared : Obligations.RefusalMarkIsNeverCleared := by
  unfold Obligations.RefusalMarkIsNeverCleared
  intro s t hstep hset
  rcases step_refused_cases hstep with hmark | ⟨a, w, rest, why, -, -, -, rfl⟩
  · exact hmark.trans hset
  · exact refuse_refused why _

theorem refuse_setIssuer_reply (why : RefuseReason) (a : HostAgent) (s : State) :
    (getPort (refuse why (s.setIssuer a)).ports a).reply = .refused why :=
  congrArg Port.reply (refuse_port why (s.setIssuer a))

/-- The agent is told a reason exactly where the table of R151 gives it. -/
theorem reply_eq_refused_iff {s t : State} {a : HostAgent} {w : Word} {rest : List Word}
    (hnext : nextMove s = some (.host a)) (hcmds : (getPort s.ports a).cmds = w :: rest) (hstep : step s = .next t)
    (why : RefuseReason) : (getPort t.ports a).reply = .refused why ↔ RefusedFor s w why := by
  constructor
  · intro hreply
    by_contra hnot
    by_cases hother : ∃ why', RefusedFor s w why'
    · obtain ⟨why', hwhy'⟩ := hother
      cases (step_of_refusedFor hnext hcmds hwhy').symm.trans hstep
      cases (refuse_setIssuer_reply why' a (usePlan s)).symm.trans hreply
      exact hnot hwhy'
    · exact (step_of_not_refusedFor hnext hcmds (not_exists.mp hother) hstep).reply_ne why hreply
  · intro hwhy
    cases (step_of_refusedFor hnext hcmds hwhy).symm.trans hstep
    exact refuse_setIssuer_reply why a (usePlan s)

/-- Settles O49: a step refuses exactly where the table of R151 says, and a refusal writes the port and the mark alone. -/
theorem refusedCommandChangesNoRegister : Obligations.RefusedCommandChangesNoRegister := by
  unfold Obligations.RefusedCommandChangesNoRegister
  refine ⟨fun s t a w rest hnext hcmds hstep why => ⟨reply_eq_refused_iff hnext hcmds hstep why, fun hwhy => ?_⟩,
    fun s t hstep hsafe hunsafe => ?_⟩
  · cases (step_of_refusedFor hnext hcmds hwhy).symm.trans hstep
    exact ⟨refuse_sameHardware why _, refuse_refused why _⟩
  · rcases step_refused_cases hstep with hmark | ⟨a, w, rest, why, hnext, hcmds, hwhy, rfl⟩
    · exact absurd (hmark.trans hsafe) hunsafe
    · exact ⟨refuse_sameHardware why _, a, w, rest, why, hnext, hcmds, hwhy⟩

end Sys2Proof.Machine
end

section
/-! PROOF. Where the machine stops (R64, R166): exactly where no agent has a step. -/

namespace Sys2Proof.Machine

/-! ### A move answers a next state -/

theorem exists_runMove_next (m : Move) (s : State) : ∃ t, runMove m s = .next t := by
  cases m with
  | tickFlag | tickOvf | tickEnd | scan | scanEnd => exact ⟨_, rfl⟩
  | host a =>
    cases hcmds : (getPort s.ports a).cmds with
    | nil => exact ⟨s, by simp [runMove, hcmds]⟩
    | cons w rest =>
      cases hdecode : decode w with
      | ok i => simpa [runMove, hcmds, runWord, hdecode] using exists_exec_next i (s.setIssuer a)
      | error e => simp [runMove, hcmds, runWord, hdecode]

/-! ### A step is taken wherever one is enabled -/

theorem freeMove_eq_none_iff (s : State) : freeMove s = none ↔ enabled s = [] := by
  unfold freeMove
  split
  · simp_all
  · simp_all
  · rename_i m m' ms henabled
    have hlt : Config.freeChoice s.draws % (ms.length + 2) < ms.length + 2 := Nat.mod_lt _ (by omega)
    simp [henabled, hlt]

theorem nextMove_eq_none_iff (s : State) : nextMove s = none ↔ enabled s = [] := by
  constructor
  · intro h
    unfold nextMove at h
    split at h
    · exact (freeMove_eq_none_iff s).mp h
    · split at h
      · cases h
      · exact (freeMove_eq_none_iff s).mp h
  · intro hnone
    refine Option.eq_none_iff_forall_ne_some.mpr fun m hm => ?_
    simpa [hnone] using nextMove_mem hm

theorem step_of_enabled_nil {s : State} (h : enabled s = []) : step s = .fault (stopReason s) := by
  simp [step, (nextMove_eq_none_iff s).mpr h]

theorem exists_step_next {s : State} (h : enabled s ≠ []) : ∃ t, step s = .next t := by
  obtain ⟨m, hm⟩ := Option.ne_none_iff_exists'.mp (mt (nextMove_eq_none_iff s).mp h)
  rw [step_of_nextMove hm]
  exact exists_runMove_next m (usePlan s)

/-! ### The state in which no step is enabled -/

section
variable {s : State} (h : enabled s = [])
include h

theorem tu_idle_of_enabled_nil : s.tu = .idle := by
  by_contra htu
  obtain ⟨m, hm⟩ := exists_mem_tickMoves htu
  have henabled := mem_enabled.mpr (.inr (.inl hm))
  simp [h] at henabled

theorem ds_of_enabled_nil : s.ds = .idle ∨ ∃ c r, s.ds = .await c r := by
  cases hds : s.ds with
  | idle => exact .inl rfl
  | await c r => exact .inr ⟨c, r, rfl⟩
  | scan cur =>
    obtain ⟨m, hm⟩ := exists_mem_seqMoves hds
    have henabled := mem_enabled.mpr (.inr (.inr hm))
    simp [h] at henabled

/-- In a quiescent block every agent but `callback` is free, so its port is empty. -/
theorem cmds_nil_of_enabled_nil (hds : s.ds = .idle) {a : HostAgent} (ha : a ≠ .callback) :
    (getPort s.ports a).cmds = [] := by
  have htu := tu_idle_of_enabled_nil h
  cases hcmds : (getPort s.ports a).cmds with
  | nil => rfl
  | cons w rest =>
    have hfree : mayPresent s a = true := (mayPresent_iff s a).mpr (by simp [htu, hds, ha])
    have hheld : isHeld s w = false := (isHeld_eq_false_iff s w).mpr (by simp [htu])
    have henabled := host_mem_enabled hcmds hfree hheld
    simp [h] at henabled

theorem stopReason_of_enabled_nil : stopReason s = if s.ds = .idle then .runOver else .callbackHang := by
  rcases ds_of_enabled_nil h with hds | ⟨c, r, hds⟩ <;> simp [stopReason, invokeOutstanding, hds]

end

/-- Settles O20: a step is taken exactly where one is enabled, and where none is, both units have ended or wait. -/
theorem stopsOnlyWithNoStepLeft : Obligations.StopsOnlyWithNoStepLeft := by
  unfold Obligations.StopsOnlyWithNoStepLeft
  intro s
  by_cases h : enabled s = []
  · have hstep := step_of_enabled_nil h
    refine ⟨fun f => ?_, fun _ => ?_, by simp [hstep]⟩
    · simp [hstep, h, stopReason_of_enabled_nil h, eq_comm]
    · have htu := tu_idle_of_enabled_nil h
      exact (ds_of_enabled_nil h).imp (fun hds => ⟨⟨htu, hds⟩, fun a => cmds_nil_of_enabled_nil h hds⟩)
        (fun hawait => ⟨htu, hawait⟩)
  · obtain ⟨t, hstep⟩ := exists_step_next h
    simp [hstep, h]

end Sys2Proof.Machine
end

section
/-! PROOF. Reset and the race of a tick with a scan of one slot (R171, R176): the reset values, and what each of TICK_FLAG(i)
and SCAN(i) leaves to the other. -/

namespace Sys2Proof.Machine

/-- Settles O1: the arrays are uniform, and the interval table is that of `TPS` = 1000. -/
theorem resetValuesOfEveryElement : Obligations.ResetValuesOfEveryElement := by
  unfold Obligations.ResetValuesOfEveryElement
  exact ⟨rfl, slotGet_replicate false, slotGet_replicate 0, slotGet_replicate none, slotTab_interval_of_tps rfl, rfl,
    rfl, slotGet_replicate none, rfl, rfl⟩

section
variable {s : State} {i : Slot} {flagq ovfq : SlotSet}

theorem slotGet_tickFlag_due_self (htu : s.tu = .run flagq ovfq) : slotGet (tickFlag i s).due i = true := by
  rw [tickFlag_due i htu, slotGet_slotSet_self]

theorem slotGet_scan_due_self (v : View) (hds : s.ds = .scan i.castSucc) : slotGet (scan v s).due i = false := by
  rw [scan_due v hds, slotGet_slotSet_self]

/-! ### Each step leaves the other enabled (R60) -/

theorem tickFlag_mem_enabled_scan_iff (v : View) :
    .tickFlag i ∈ enabled (scan v s) ↔ .tickFlag i ∈ enabled s := by
  simp only [tickFlag_mem_enabled_iff, scan_tu, scan_params]

/-- The views of a SCAN depend on its flag: a TICK_FLAG that finds it set keeps them. -/
theorem views_tickFlag (htu : s.tu = .run flagq ovfq) (hdue : slotGet s.due i = true) :
    views (tickFlag i s) i = views s i := by
  simp only [views, hdue, slotGet_tickFlag_due_self htu, tickFlag_params, tickFlag_cb, tickFlag_cbsnap]

theorem scan_mem_enabled_tickFlag_iff (v : View) (htu : s.tu = .run flagq ovfq) (hds : s.ds = .scan i.castSucc)
    (hdue : slotGet s.due i = true) : .scan v ∈ enabled (tickFlag i s) ↔ .scan v ∈ enabled s := by
  rw [scan_mem_enabled_at ((tickFlag_ds i s).trans hds), scan_mem_enabled_at hds, views_tickFlag htu hdue]

/-! ### What each order leaves pending (R176) -/

/-- SCAN first: TICK_FLAG finds the flag clear and records no miss. -/
theorem tickFlag_scan_tu (v : View) (htu : s.tu = .run flagq ovfq) (hds : s.ds = .scan i.castSucc) :
    (tickFlag i (scan v s)).tu = .run (slotSet flagq i false) ovfq := by
  simp [tickFlag_tu i ((scan_tu v s).trans htu), slotGet_scan_due_self v hds]

/-- TICK_FLAG first: it finds the flag set and records a miss, which SCAN leaves. -/
theorem scan_tickFlag_tu (v : View) (htu : s.tu = .run flagq ovfq) (hdue : slotGet s.due i = true) :
    (scan v (tickFlag i s)).tu = .run (slotSet flagq i false) (slotSet ovfq i true) := by
  simp [tickFlag_tu i htu, hdue]

end

/-- Settles O58: any view admitted for the SCAN will do; the two orders differ in whether TICK_FLAG finds the flag set. -/
theorem tickAndScanRaceBothWays : Obligations.TickAndScanRaceBothWays := by
  unfold Obligations.TickAndScanRaceBothWays
  intro s i flagq ovfq htu hflag hovf horder hds hdue
  obtain ⟨v, hv⟩ := exists_mem_views s i
  have hscan : .scan v ∈ enabled s := (scan_mem_enabled_at hds v).mpr hv
  have htick : .tickFlag i ∈ enabled s := (tickFlag_mem_enabled_iff s i).mpr ⟨flagq, ovfq, htu, hflag, horder⟩
  have hscanFirst := tickFlag_scan_tu v htu hds
  have htickFirst := scan_tickFlag_tu v htu hdue
  refine ⟨v, hscan, htick, ⟨(tickFlag_mem_enabled_scan_iff v).mpr htick,
      slotGet_tickFlag_due_self ((scan_tu v s).trans htu), ?_⟩,
    (scan_mem_enabled_tickFlag_iff v htu hds hdue).mpr hscan,
    slotGet_scan_due_self v ((tickFlag_ds i s).trans hds), ?_, ?_⟩
  · simp [tickOvf_mem_enabled_iff, hscanFirst, hovf]
  · exact (tickOvf_mem_enabled_iff _ i).mpr ⟨_, _, htickFirst, slotGet_slotSet_self ovfq i true⟩
  · simp [tickOvf_ovf i htickFirst]

end Sys2Proof.Machine
end
